-- ==== Sys2Proof/Word.lean ====
section
/-! DEFINITION. The two word types of the core (R6, R8): a byte and a 16-bit word, both read as unsigned numbers unless a rule says signed. -/

namespace Sys2Proof

/-- An 8-bit value: A, X, Y, S, a materialized P, a byte of memory (R6). -/
abbrev Byte := BitVec 8

/-- A 16-bit value: PC and every bus address (R6). -/
abbrev Word := BitVec 16

end Sys2Proof
end

