-- ==== Sys2Proof/Config.lean ====
section
/-! DEFINITION. The OPEN parameters of the hardware (R6): what one implementation fixes and the spec leaves as named arguments of the model. They are plain data, carried by State and changed by no step, so that a statement about every state is a statement about every choice of them (log entry 3). -/

namespace Sys2Proof

/-- `RESET_PC_MODE` (R6, R52, D1): where `reset()` takes PC from. -/
inductive ResetPcMode where
  /-- PC is the little-endian word at 0xFFFC. -/
  | vector
  /-- PC is 0x0000. -/
  | zero
  deriving DecidableEq, Repr

/-- The parameters marked OPEN in R6. -/
structure Config where
  /-- `RESET_PC_MODE` (D1). -/
  resetPcMode : ResetPcMode
  /-- `JMP_IND_PAGE_WRAP` (D9, R130). -/
  jmpIndPageWrap : Bool
  /-- `ANE_CONST` (D16, R272). -/
  aneConst : Byte
  /-- `LXA_CONST` (D16, R273). -/
  lxaConst : Byte
  /-- `JAM_CYCLES` (D15, R94). -/
  jamCycles : Nat
  deriving DecidableEq, Repr

/-- The defaults R6 gives, those of the spec's own vectors. -/
def Config.default : Config where
  resetPcMode := .vector
  jmpIndPageWrap := false
  aneConst := 0xFF#8
  lxaConst := 0xFF#8
  jamCycles := 2

end Sys2Proof
end

