-- ==== Sys2Proof/Machine/State.lean ====
section
/-! DEFINITION. Everything the spec gives the machine, as plain data: the core's tuple (10_state.md), the bus it is the master of (20_memory.md), the embedder's input level, the OPEN parameters, and the value the last `clock()` returned. -/

namespace Sys2Proof.Machine

/-- The bus contents (R60) as (address, byte) pairs, addresses strictly rising, no entry equal to what an unlisted address reads as (`Memory.wf`). -/
abbrev Memory := List Host.Cell

/-- The six stored flags of P (R35). B and U (bits 4 and 5) are not state (R37, R38, C7). -/
structure Flags where
  /-- Carry, bit 0. -/
  c : Bool
  /-- Zero, bit 1. -/
  z : Bool
  /-- Interrupt disable, bit 2. -/
  i : Bool
  /-- Decimal, bit 3; stored, but no arithmetic reads it (R150, D7). -/
  d : Bool
  /-- Overflow, bit 6. -/
  v : Bool
  /-- Negative, bit 7. -/
  n : Bool
  deriving DecidableEq, Repr

/-- One core and its bus. -/
structure State where
  /-- A, the accumulator (R30). -/
  a : Byte
  /-- X (R31). -/
  x : Byte
  /-- Y (R32). -/
  y : Byte
  /-- S, the stack pointer: the stack byte it designates is at 0x0100 + S (R33). -/
  sp : Byte
  /-- PC, the program counter (R34). -/
  pc : Word
  /-- P, the status register (R35). -/
  p : Flags
  /-- Set by a JAM, cleared by `reset()` (R43). -/
  halted : Bool
  /-- The NMI latch (R44). -/
  nmiPending : Bool
  /-- The input level `irq`, as the embedder holds it (R302); no step writes it (log entry 5). -/
  irq : Bool
  /-- The bus contents (R60). -/
  mem : Memory
  /-- The OPEN parameters of this machine (R6); no step writes them (log entry 3). -/
  config : Config
  /-- The cycle count the last `clock()` returned (R94), none where none has returned since `reset()`. The model's own field: an output, not core state (R45, log entry 4). -/
  clockResult : Option Nat
  deriving DecidableEq, Repr

/-- Why the machine stops. The spec gives no reason that can occur (R301). -/
inductive Fault where
  /-- A "Bus range violation" (R73, R301): the bus would raise it for an address outside 0x0000 to 0xFFFF. Nothing raises it, since every address the core issues is a `Word`. Safe: it adds no behaviour (log entry 9). -/
  | busRangeViolation (address : Nat)
  deriving DecidableEq, Repr

/-- Why the model gives an instruction no meaning. -/
inductive Refusal where
  /-- Raised by an arm of `exec` for an instruction that has no meaning yet; no arm raises it now. Safe. -/
  | notModelled (mnemonic : String)
  deriving DecidableEq, Repr

/-- The machine right after `reset()` (R330) with the default parameters (R6), over a bus with nothing listed. PC is the word at 0xFFFC (R52), which that bus reads as 0x0000 (log entries 1 and 2); `irq` is 0 and no `clock()` has returned (log entries 5 and 4). `State.reset_eq_reset_call` (Laws) shows that this is what the `reset()` call leaves. -/
def State.reset : State where
  a := 0x00#8
  x := 0x00#8
  y := 0x00#8
  sp := 0xFD#8
  pc := 0x0000#16
  p := { c := false, z := false, i := true, d := false, v := false, n := false }
  halted := false
  nmiPending := false
  irq := false
  mem := []
  config := Config.default
  clockResult := none

end Sys2Proof.Machine
end

