-- ==== Sys2Proof/Machine/Flags.lean ====
section
/-! DEFINITION. The status register's byte form (R36 to R39) and the flag_compute_unit (R40): every flag computation the spec gives. -/

namespace Sys2Proof.Machine

/-- `PackP(b)` (R36): bits 7 to 0 are N, V, 1, b, D, I, Z, C. -/
def Flags.pack (p : Flags) (b : Bool) : Byte :=
  BitVec.ofBool p.n ++ BitVec.ofBool p.v ++ 1#1 ++ BitVec.ofBool b ++
    BitVec.ofBool p.d ++ BitVec.ofBool p.i ++ BitVec.ofBool p.z ++ BitVec.ofBool p.c

/-- `UnpackP(v)` (R39): bits 4 and 5 are ignored. -/
def Flags.unpack (v : Byte) : Flags where
  c := v.getLsbD 0
  z := v.getLsbD 1
  i := v.getLsbD 2
  d := v.getLsbD 3
  v := v.getLsbD 6
  n := v.getLsbD 7

/-- `setCarry(r)` (R40), for a raw result wider than 8 bits. -/
def Flags.setCarry (p : Flags) (r : Nat) : Flags := { p with c := decide (r > 0xFF) }

/-- `setNegative(r)` (R40): bit 7 of the low byte of the raw result. -/
def Flags.setNegative (p : Flags) (low : Byte) : Flags := { p with n := low.getLsbD 7 }

/-- `setZero(r)` (R40): the low byte of the raw result is 0. -/
def Flags.setZero (p : Flags) (low : Byte) : Flags := { p with z := decide (low = 0#8) }

/-- `SetNZ(v)` (R40). -/
def Flags.setNZ (p : Flags) (v : Byte) : Flags := (p.setNegative v).setZero v

/-- `setOverflow(a, b, r)` (R40): the sign-bit formula, of which only the low byte of r is read. -/
def Flags.setOverflow (p : Flags) (a b low : Byte) : Flags :=
  { p with v := decide ((~~~(a ^^^ b) &&& (a ^^^ low) &&& 0x80#8) ≠ 0#8) }

/-- The carry a shift or rotate leaves (R40, R170 to R173): the bit shifted out. -/
def Flags.setShiftedOut (p : Flags) (bit : Bool) : Flags := { p with c := bit }

/-- The flags of `Compare(R, m)` (R180, D5, D6): N from the difference, Z from equality, C where there is no borrow. -/
def Flags.compare (p : Flags) (r m : Byte) : Flags :=
  { p with n := (r - m).getLsbD 7, z := decide (r = m), c := decide (m.toNat ≤ r.toNat) }

/-- The flags of BIT (R163): Z from A & m, N and V from the memory byte. -/
def Flags.bitTest (p : Flags) (a m : Byte) : Flags :=
  { p with z := decide (a &&& m = 0#8), n := m.getLsbD 7, v := m.getLsbD 6 }

/-- The flags of ARR (R271) from its result: N and Z of it, C its bit 6, V its bit 6 xor bit 5. -/
def Flags.arr (p : Flags) (r : Byte) : Flags :=
  { p.setNZ r with c := r.getLsbD 6, v := (r.getLsbD 6) ^^ (r.getLsbD 5) }

end Sys2Proof.Machine
end

