-- ==== Sys2Proof/Syntax.lean ====
section
/-! DEFINITION. The instruction set as syntax: one constructor of `Instr` per row of spec/opcode_table.json (all 256 opcode bytes, R93), carrying the operand bytes of its format (R91). Rows of one mnemonic and mode that share a name (the undocumented NOPs, JAM, ANC and SBC 0xEB) have their opcode byte in the constructor's name. -/

namespace Sys2Proof

/-- The 76 mnemonics of the opcode table (R93, R99). -/
inductive Mnemonic where
  | ADC | ALR | ANC | AND | ANE | ARR | ASL | BCC | BCS | BEQ | BIT | BMI | BNE | BPL | BRK | BVC | BVS | CLC | CLD
  | CLI | CLV | CMP | CPX | CPY | DCP | DEC | DEX | DEY | EOR | INC | INX | INY | ISC | JAM | JMP | JSR | LAS | LAX
  | LDA | LDX | LDY | LSR | LXA | NOP | ORA | PHA | PHP | PLA | PLP | RLA | ROL | ROR | RRA | RTI | RTS | SAX | SBC
  | SBX | SEC | SED | SEI | SHA | SHX | SHY | SLO | SRE | STA | STX | STY | TAS | TAX | TAY | TSX | TXA | TXS | TYA
  deriving DecidableEq, Repr

/-- The thirteen addressing modes (R91, R121 to R133). -/
inductive Mode where
  /-- Implied (R128): no operand. -/
  | imp
  /-- Accumulator (R129): the operand is A. -/
  | acc
  /-- Immediate (R121): the byte itself. -/
  | imm
  /-- Zero Page (R125). -/
  | zp
  /-- Zero Page,X (R126). -/
  | zpx
  /-- Zero Page,Y (R127). -/
  | zpy
  /-- Relative (R133): a signed offset, branches only. -/
  | rel
  /-- (Indirect,X) (R131). -/
  | izx
  /-- (Indirect),Y (R132). -/
  | izy
  /-- Absolute (R122). -/
  | abs
  /-- Absolute,X (R123). -/
  | abx
  /-- Absolute,Y (R124). -/
  | aby
  /-- Indirect (R130): JMP only. -/
  | ind
  deriving DecidableEq, Repr

/-- The operand bytes of an instruction (R91): none, one byte, or a 16-bit value whose low byte comes first. -/
inductive Operands where
  | none
  | byte (b : Byte)
  | word (w : Word)
  deriving DecidableEq, Repr

/-- The instructions, one constructor per row of the opcode table: the 209 rows with an operand in the table's order, then the 47 without (Lean compiles no constructor that has arguments past the 245th). -/
inductive Instr where
  | oraIndX (z : Byte)  -- 0x01 ORA (z,X) (R161)
  | sloIndX (z : Byte)  -- 0x03 SLO (z,X) (R261)
  | nopZp04 (z : Byte)  -- 0x04 NOP z (R282)
  | oraZp (z : Byte)  -- 0x05 ORA z (R161)
  | aslZp (z : Byte)  -- 0x06 ASL z (R170)
  | sloZp (z : Byte)  -- 0x07 SLO z (R261)
  | oraImm (i : Byte)  -- 0x09 ORA #i (R161)
  | ancImm0B (i : Byte)  -- 0x0B ANC #i (R269)
  | nopAbs (w : Word)  -- 0x0C NOP w (R282)
  | oraAbs (w : Word)  -- 0x0D ORA w (R161)
  | aslAbs (w : Word)  -- 0x0E ASL w (R170)
  | sloAbs (w : Word)  -- 0x0F SLO w (R261)
  | bpl (o : Byte)  -- 0x10 BPL o (R249)
  | oraIndY (z : Byte)  -- 0x11 ORA (z),Y (R161)
  | sloIndY (z : Byte)  -- 0x13 SLO (z),Y (R261)
  | nopZpX14 (z : Byte)  -- 0x14 NOP z,X (R282)
  | oraZpX (z : Byte)  -- 0x15 ORA z,X (R161)
  | aslZpX (z : Byte)  -- 0x16 ASL z,X (R170)
  | sloZpX (z : Byte)  -- 0x17 SLO z,X (R261)
  | oraAbsY (w : Word)  -- 0x19 ORA w,Y (R161)
  | sloAbsY (w : Word)  -- 0x1B SLO w,Y (R261)
  | nopAbsX1C (w : Word)  -- 0x1C NOP w,X (R282)
  | oraAbsX (w : Word)  -- 0x1D ORA w,X (R161)
  | aslAbsX (w : Word)  -- 0x1E ASL w,X (R170)
  | sloAbsX (w : Word)  -- 0x1F SLO w,X (R261)
  | jsrAbs (w : Word)  -- 0x20 JSR w (R241)
  | andIndX (z : Byte)  -- 0x21 AND (z,X) (R160)
  | rlaIndX (z : Byte)  -- 0x23 RLA (z,X) (R262)
  | bitZp (z : Byte)  -- 0x24 BIT z (R163)
  | andZp (z : Byte)  -- 0x25 AND z (R160)
  | rolZp (z : Byte)  -- 0x26 ROL z (R172)
  | rlaZp (z : Byte)  -- 0x27 RLA z (R262)
  | andImm (i : Byte)  -- 0x29 AND #i (R160)
  | ancImm2B (i : Byte)  -- 0x2B ANC #i (R269)
  | bitAbs (w : Word)  -- 0x2C BIT w (R163)
  | andAbs (w : Word)  -- 0x2D AND w (R160)
  | rolAbs (w : Word)  -- 0x2E ROL w (R172)
  | rlaAbs (w : Word)  -- 0x2F RLA w (R262)
  | bmi (o : Byte)  -- 0x30 BMI o (R247)
  | andIndY (z : Byte)  -- 0x31 AND (z),Y (R160)
  | rlaIndY (z : Byte)  -- 0x33 RLA (z),Y (R262)
  | nopZpX34 (z : Byte)  -- 0x34 NOP z,X (R282)
  | andZpX (z : Byte)  -- 0x35 AND z,X (R160)
  | rolZpX (z : Byte)  -- 0x36 ROL z,X (R172)
  | rlaZpX (z : Byte)  -- 0x37 RLA z,X (R262)
  | andAbsY (w : Word)  -- 0x39 AND w,Y (R160)
  | rlaAbsY (w : Word)  -- 0x3B RLA w,Y (R262)
  | nopAbsX3C (w : Word)  -- 0x3C NOP w,X (R282)
  | andAbsX (w : Word)  -- 0x3D AND w,X (R160)
  | rolAbsX (w : Word)  -- 0x3E ROL w,X (R172)
  | rlaAbsX (w : Word)  -- 0x3F RLA w,X (R262)
  | eorIndX (z : Byte)  -- 0x41 EOR (z,X) (R162)
  | sreIndX (z : Byte)  -- 0x43 SRE (z,X) (R263)
  | nopZp44 (z : Byte)  -- 0x44 NOP z (R282)
  | eorZp (z : Byte)  -- 0x45 EOR z (R162)
  | lsrZp (z : Byte)  -- 0x46 LSR z (R171)
  | sreZp (z : Byte)  -- 0x47 SRE z (R263)
  | eorImm (i : Byte)  -- 0x49 EOR #i (R162)
  | alrImm (i : Byte)  -- 0x4B ALR #i (R270)
  | jmpAbs (w : Word)  -- 0x4C JMP w (R240)
  | eorAbs (w : Word)  -- 0x4D EOR w (R162)
  | lsrAbs (w : Word)  -- 0x4E LSR w (R171)
  | sreAbs (w : Word)  -- 0x4F SRE w (R263)
  | bvc (o : Byte)  -- 0x50 BVC o (R250)
  | eorIndY (z : Byte)  -- 0x51 EOR (z),Y (R162)
  | sreIndY (z : Byte)  -- 0x53 SRE (z),Y (R263)
  | nopZpX54 (z : Byte)  -- 0x54 NOP z,X (R282)
  | eorZpX (z : Byte)  -- 0x55 EOR z,X (R162)
  | lsrZpX (z : Byte)  -- 0x56 LSR z,X (R171)
  | sreZpX (z : Byte)  -- 0x57 SRE z,X (R263)
  | eorAbsY (w : Word)  -- 0x59 EOR w,Y (R162)
  | sreAbsY (w : Word)  -- 0x5B SRE w,Y (R263)
  | nopAbsX5C (w : Word)  -- 0x5C NOP w,X (R282)
  | eorAbsX (w : Word)  -- 0x5D EOR w,X (R162)
  | lsrAbsX (w : Word)  -- 0x5E LSR w,X (R171)
  | sreAbsX (w : Word)  -- 0x5F SRE w,X (R263)
  | adcIndX (z : Byte)  -- 0x61 ADC (z,X) (R150)
  | rraIndX (z : Byte)  -- 0x63 RRA (z,X) (R264)
  | nopZp64 (z : Byte)  -- 0x64 NOP z (R282)
  | adcZp (z : Byte)  -- 0x65 ADC z (R150)
  | rorZp (z : Byte)  -- 0x66 ROR z (R173)
  | rraZp (z : Byte)  -- 0x67 RRA z (R264)
  | adcImm (i : Byte)  -- 0x69 ADC #i (R150)
  | arrImm (i : Byte)  -- 0x6B ARR #i (R271)
  | jmpInd (w : Word)  -- 0x6C JMP (w) (R240)
  | adcAbs (w : Word)  -- 0x6D ADC w (R150)
  | rorAbs (w : Word)  -- 0x6E ROR w (R173)
  | rraAbs (w : Word)  -- 0x6F RRA w (R264)
  | bvs (o : Byte)  -- 0x70 BVS o (R251)
  | adcIndY (z : Byte)  -- 0x71 ADC (z),Y (R150)
  | rraIndY (z : Byte)  -- 0x73 RRA (z),Y (R264)
  | nopZpX74 (z : Byte)  -- 0x74 NOP z,X (R282)
  | adcZpX (z : Byte)  -- 0x75 ADC z,X (R150)
  | rorZpX (z : Byte)  -- 0x76 ROR z,X (R173)
  | rraZpX (z : Byte)  -- 0x77 RRA z,X (R264)
  | adcAbsY (w : Word)  -- 0x79 ADC w,Y (R150)
  | rraAbsY (w : Word)  -- 0x7B RRA w,Y (R264)
  | nopAbsX7C (w : Word)  -- 0x7C NOP w,X (R282)
  | adcAbsX (w : Word)  -- 0x7D ADC w,X (R150)
  | rorAbsX (w : Word)  -- 0x7E ROR w,X (R173)
  | rraAbsX (w : Word)  -- 0x7F RRA w,X (R264)
  | nopImm80 (i : Byte)  -- 0x80 NOP #i (R282)
  | staIndX (z : Byte)  -- 0x81 STA (z,X) (R203)
  | nopImm82 (i : Byte)  -- 0x82 NOP #i (R282)
  | saxIndX (z : Byte)  -- 0x83 SAX (z,X) (R268)
  | styZp (z : Byte)  -- 0x84 STY z (R205)
  | staZp (z : Byte)  -- 0x85 STA z (R203)
  | stxZp (z : Byte)  -- 0x86 STX z (R204)
  | saxZp (z : Byte)  -- 0x87 SAX z (R268)
  | nopImm89 (i : Byte)  -- 0x89 NOP #i (R282)
  | aneImm (i : Byte)  -- 0x8B ANE #i (R272)
  | styAbs (w : Word)  -- 0x8C STY w (R205)
  | staAbs (w : Word)  -- 0x8D STA w (R203)
  | stxAbs (w : Word)  -- 0x8E STX w (R204)
  | saxAbs (w : Word)  -- 0x8F SAX w (R268)
  | bcc (o : Byte)  -- 0x90 BCC o (R244)
  | staIndY (z : Byte)  -- 0x91 STA (z),Y (R203)
  | shaIndY (z : Byte)  -- 0x93 SHA (z),Y (R277)
  | styZpX (z : Byte)  -- 0x94 STY z,X (R205)
  | staZpX (z : Byte)  -- 0x95 STA z,X (R203)
  | stxZpY (z : Byte)  -- 0x96 STX z,Y (R204)
  | saxZpY (z : Byte)  -- 0x97 SAX z,Y (R268)
  | staAbsY (w : Word)  -- 0x99 STA w,Y (R203)
  | tasAbsY (w : Word)  -- 0x9B TAS w,Y (R280)
  | shyAbsX (w : Word)  -- 0x9C SHY w,X (R278)
  | staAbsX (w : Word)  -- 0x9D STA w,X (R203)
  | shxAbsY (w : Word)  -- 0x9E SHX w,Y (R279)
  | shaAbsY (w : Word)  -- 0x9F SHA w,Y (R277)
  | ldyImm (i : Byte)  -- 0xA0 LDY #i (R202)
  | ldaIndX (z : Byte)  -- 0xA1 LDA (z,X) (R200)
  | ldxImm (i : Byte)  -- 0xA2 LDX #i (R201)
  | laxIndX (z : Byte)  -- 0xA3 LAX (z,X) (R267)
  | ldyZp (z : Byte)  -- 0xA4 LDY z (R202)
  | ldaZp (z : Byte)  -- 0xA5 LDA z (R200)
  | ldxZp (z : Byte)  -- 0xA6 LDX z (R201)
  | laxZp (z : Byte)  -- 0xA7 LAX z (R267)
  | ldaImm (i : Byte)  -- 0xA9 LDA #i (R200)
  | lxaImm (i : Byte)  -- 0xAB LXA #i (R273)
  | ldyAbs (w : Word)  -- 0xAC LDY w (R202)
  | ldaAbs (w : Word)  -- 0xAD LDA w (R200)
  | ldxAbs (w : Word)  -- 0xAE LDX w (R201)
  | laxAbs (w : Word)  -- 0xAF LAX w (R267)
  | bcs (o : Byte)  -- 0xB0 BCS o (R245)
  | ldaIndY (z : Byte)  -- 0xB1 LDA (z),Y (R200)
  | laxIndY (z : Byte)  -- 0xB3 LAX (z),Y (R267)
  | ldyZpX (z : Byte)  -- 0xB4 LDY z,X (R202)
  | ldaZpX (z : Byte)  -- 0xB5 LDA z,X (R200)
  | ldxZpY (z : Byte)  -- 0xB6 LDX z,Y (R201)
  | laxZpY (z : Byte)  -- 0xB7 LAX z,Y (R267)
  | ldaAbsY (w : Word)  -- 0xB9 LDA w,Y (R200)
  | lasAbsY (w : Word)  -- 0xBB LAS w,Y (R275)
  | ldyAbsX (w : Word)  -- 0xBC LDY w,X (R202)
  | ldaAbsX (w : Word)  -- 0xBD LDA w,X (R200)
  | ldxAbsY (w : Word)  -- 0xBE LDX w,Y (R201)
  | laxAbsY (w : Word)  -- 0xBF LAX w,Y (R267)
  | cpyImm (i : Byte)  -- 0xC0 CPY #i (R183)
  | cmpIndX (z : Byte)  -- 0xC1 CMP (z,X) (R181)
  | nopImmC2 (i : Byte)  -- 0xC2 NOP #i (R282)
  | dcpIndX (z : Byte)  -- 0xC3 DCP (z,X) (R265)
  | cpyZp (z : Byte)  -- 0xC4 CPY z (R183)
  | cmpZp (z : Byte)  -- 0xC5 CMP z (R181)
  | decZp (z : Byte)  -- 0xC6 DEC z (R191)
  | dcpZp (z : Byte)  -- 0xC7 DCP z (R265)
  | cmpImm (i : Byte)  -- 0xC9 CMP #i (R181)
  | sbxImm (i : Byte)  -- 0xCB SBX #i (R274)
  | cpyAbs (w : Word)  -- 0xCC CPY w (R183)
  | cmpAbs (w : Word)  -- 0xCD CMP w (R181)
  | decAbs (w : Word)  -- 0xCE DEC w (R191)
  | dcpAbs (w : Word)  -- 0xCF DCP w (R265)
  | bne (o : Byte)  -- 0xD0 BNE o (R248)
  | cmpIndY (z : Byte)  -- 0xD1 CMP (z),Y (R181)
  | dcpIndY (z : Byte)  -- 0xD3 DCP (z),Y (R265)
  | nopZpXD4 (z : Byte)  -- 0xD4 NOP z,X (R282)
  | cmpZpX (z : Byte)  -- 0xD5 CMP z,X (R181)
  | decZpX (z : Byte)  -- 0xD6 DEC z,X (R191)
  | dcpZpX (z : Byte)  -- 0xD7 DCP z,X (R265)
  | cmpAbsY (w : Word)  -- 0xD9 CMP w,Y (R181)
  | dcpAbsY (w : Word)  -- 0xDB DCP w,Y (R265)
  | nopAbsXDC (w : Word)  -- 0xDC NOP w,X (R282)
  | cmpAbsX (w : Word)  -- 0xDD CMP w,X (R181)
  | decAbsX (w : Word)  -- 0xDE DEC w,X (R191)
  | dcpAbsX (w : Word)  -- 0xDF DCP w,X (R265)
  | cpxImm (i : Byte)  -- 0xE0 CPX #i (R182)
  | sbcIndX (z : Byte)  -- 0xE1 SBC (z,X) (R151)
  | nopImmE2 (i : Byte)  -- 0xE2 NOP #i (R282)
  | iscIndX (z : Byte)  -- 0xE3 ISC (z,X) (R266)
  | cpxZp (z : Byte)  -- 0xE4 CPX z (R182)
  | sbcZp (z : Byte)  -- 0xE5 SBC z (R151)
  | incZp (z : Byte)  -- 0xE6 INC z (R190)
  | iscZp (z : Byte)  -- 0xE7 ISC z (R266)
  | sbcImm (i : Byte)  -- 0xE9 SBC #i (R151)
  | sbcImmEB (i : Byte)  -- 0xEB SBC #i (R283)
  | cpxAbs (w : Word)  -- 0xEC CPX w (R182)
  | sbcAbs (w : Word)  -- 0xED SBC w (R151)
  | incAbs (w : Word)  -- 0xEE INC w (R190)
  | iscAbs (w : Word)  -- 0xEF ISC w (R266)
  | beq (o : Byte)  -- 0xF0 BEQ o (R246)
  | sbcIndY (z : Byte)  -- 0xF1 SBC (z),Y (R151)
  | iscIndY (z : Byte)  -- 0xF3 ISC (z),Y (R266)
  | nopZpXF4 (z : Byte)  -- 0xF4 NOP z,X (R282)
  | sbcZpX (z : Byte)  -- 0xF5 SBC z,X (R151)
  | incZpX (z : Byte)  -- 0xF6 INC z,X (R190)
  | iscZpX (z : Byte)  -- 0xF7 ISC z,X (R266)
  | sbcAbsY (w : Word)  -- 0xF9 SBC w,Y (R151)
  | iscAbsY (w : Word)  -- 0xFB ISC w,Y (R266)
  | nopAbsXFC (w : Word)  -- 0xFC NOP w,X (R282)
  | sbcAbsX (w : Word)  -- 0xFD SBC w,X (R151)
  | incAbsX (w : Word)  -- 0xFE INC w,X (R190)
  | iscAbsX (w : Word)  -- 0xFF ISC w,X (R266)
  | brk  -- 0x00 BRK (R252)
  | jam02  -- 0x02 JAM (R281)
  | php  -- 0x08 PHP (R221)
  | aslAcc  -- 0x0A ASL A (R170)
  | jam12  -- 0x12 JAM (R281)
  | clc  -- 0x18 CLC (R224)
  | nop1A  -- 0x1A NOP (R282)
  | jam22  -- 0x22 JAM (R281)
  | plp  -- 0x28 PLP (R223)
  | rolAcc  -- 0x2A ROL A (R172)
  | jam32  -- 0x32 JAM (R281)
  | sec  -- 0x38 SEC (R225)
  | nop3A  -- 0x3A NOP (R282)
  | rti  -- 0x40 RTI (R253)
  | jam42  -- 0x42 JAM (R281)
  | pha  -- 0x48 PHA (R220)
  | lsrAcc  -- 0x4A LSR A (R171)
  | jam52  -- 0x52 JAM (R281)
  | cli  -- 0x58 CLI (R226)
  | nop5A  -- 0x5A NOP (R282)
  | rts  -- 0x60 RTS (R242)
  | jam62  -- 0x62 JAM (R281)
  | pla  -- 0x68 PLA (R222)
  | rorAcc  -- 0x6A ROR A (R173)
  | jam72  -- 0x72 JAM (R281)
  | sei  -- 0x78 SEI (R227)
  | nop7A  -- 0x7A NOP (R282)
  | dey  -- 0x88 DEY (R195)
  | txa  -- 0x8A TXA (R208)
  | jam92  -- 0x92 JAM (R281)
  | tya  -- 0x98 TYA (R209)
  | txs  -- 0x9A TXS (R211)
  | tay  -- 0xA8 TAY (R207)
  | tax  -- 0xAA TAX (R206)
  | jamB2  -- 0xB2 JAM (R281)
  | clv  -- 0xB8 CLV (R228)
  | tsx  -- 0xBA TSX (R210)
  | iny  -- 0xC8 INY (R193)
  | dex  -- 0xCA DEX (R194)
  | jamD2  -- 0xD2 JAM (R281)
  | cld  -- 0xD8 CLD (R229)
  | nopDA  -- 0xDA NOP (R282)
  | inx  -- 0xE8 INX (R192)
  | nop  -- 0xEA NOP (R231)
  | jamF2  -- 0xF2 JAM (R281)
  | sed  -- 0xF8 SED (R230)
  | nopFA  -- 0xFA NOP (R282)
  deriving DecidableEq, Repr

/-- The mnemonic of an instruction's row (R93). -/
def Instr.mnemonic : Instr → Mnemonic
  | .adcIndX _ | .adcZp _ | .adcImm _ | .adcAbs _ | .adcIndY _ | .adcZpX _ | .adcAbsY _ | .adcAbsX _
    => .ADC
  | .alrImm _
    => .ALR
  | .ancImm0B _ | .ancImm2B _
    => .ANC
  | .andIndX _ | .andZp _ | .andImm _ | .andAbs _ | .andIndY _ | .andZpX _ | .andAbsY _ | .andAbsX _
    => .AND
  | .aneImm _
    => .ANE
  | .arrImm _
    => .ARR
  | .aslZp _ | .aslAcc | .aslAbs _ | .aslZpX _ | .aslAbsX _
    => .ASL
  | .bcc _
    => .BCC
  | .bcs _
    => .BCS
  | .beq _
    => .BEQ
  | .bitZp _ | .bitAbs _
    => .BIT
  | .bmi _
    => .BMI
  | .bne _
    => .BNE
  | .bpl _
    => .BPL
  | .brk
    => .BRK
  | .bvc _
    => .BVC
  | .bvs _
    => .BVS
  | .clc
    => .CLC
  | .cld
    => .CLD
  | .cli
    => .CLI
  | .clv
    => .CLV
  | .cmpIndX _ | .cmpZp _ | .cmpImm _ | .cmpAbs _ | .cmpIndY _ | .cmpZpX _ | .cmpAbsY _ | .cmpAbsX _
    => .CMP
  | .cpxImm _ | .cpxZp _ | .cpxAbs _
    => .CPX
  | .cpyImm _ | .cpyZp _ | .cpyAbs _
    => .CPY
  | .dcpIndX _ | .dcpZp _ | .dcpAbs _ | .dcpIndY _ | .dcpZpX _ | .dcpAbsY _ | .dcpAbsX _
    => .DCP
  | .decZp _ | .decAbs _ | .decZpX _ | .decAbsX _
    => .DEC
  | .dex
    => .DEX
  | .dey
    => .DEY
  | .eorIndX _ | .eorZp _ | .eorImm _ | .eorAbs _ | .eorIndY _ | .eorZpX _ | .eorAbsY _ | .eorAbsX _
    => .EOR
  | .incZp _ | .incAbs _ | .incZpX _ | .incAbsX _
    => .INC
  | .inx
    => .INX
  | .iny
    => .INY
  | .iscIndX _ | .iscZp _ | .iscAbs _ | .iscIndY _ | .iscZpX _ | .iscAbsY _ | .iscAbsX _
    => .ISC
  | .jam02 | .jam12 | .jam22 | .jam32 | .jam42 | .jam52 | .jam62 | .jam72 | .jam92 | .jamB2 | .jamD2 | .jamF2
    => .JAM
  | .jmpAbs _ | .jmpInd _
    => .JMP
  | .jsrAbs _
    => .JSR
  | .lasAbsY _
    => .LAS
  | .laxIndX _ | .laxZp _ | .laxAbs _ | .laxIndY _ | .laxZpY _ | .laxAbsY _
    => .LAX
  | .ldaIndX _ | .ldaZp _ | .ldaImm _ | .ldaAbs _ | .ldaIndY _ | .ldaZpX _ | .ldaAbsY _ | .ldaAbsX _
    => .LDA
  | .ldxImm _ | .ldxZp _ | .ldxAbs _ | .ldxZpY _ | .ldxAbsY _
    => .LDX
  | .ldyImm _ | .ldyZp _ | .ldyAbs _ | .ldyZpX _ | .ldyAbsX _
    => .LDY
  | .lsrZp _ | .lsrAcc | .lsrAbs _ | .lsrZpX _ | .lsrAbsX _
    => .LSR
  | .lxaImm _
    => .LXA
  | .nopZp04 _ | .nopAbs _ | .nopZpX14 _ | .nop1A | .nopAbsX1C _ | .nopZpX34 _ | .nop3A | .nopAbsX3C _ | .nopZp44 _
  | .nopZpX54 _ | .nop5A | .nopAbsX5C _ | .nopZp64 _ | .nopZpX74 _ | .nop7A | .nopAbsX7C _ | .nopImm80 _
  | .nopImm82 _ | .nopImm89 _ | .nopImmC2 _ | .nopZpXD4 _ | .nopDA | .nopAbsXDC _ | .nopImmE2 _ | .nop | .nopZpXF4 _
  | .nopFA | .nopAbsXFC _
    => .NOP
  | .oraIndX _ | .oraZp _ | .oraImm _ | .oraAbs _ | .oraIndY _ | .oraZpX _ | .oraAbsY _ | .oraAbsX _
    => .ORA
  | .pha
    => .PHA
  | .php
    => .PHP
  | .pla
    => .PLA
  | .plp
    => .PLP
  | .rlaIndX _ | .rlaZp _ | .rlaAbs _ | .rlaIndY _ | .rlaZpX _ | .rlaAbsY _ | .rlaAbsX _
    => .RLA
  | .rolZp _ | .rolAcc | .rolAbs _ | .rolZpX _ | .rolAbsX _
    => .ROL
  | .rorZp _ | .rorAcc | .rorAbs _ | .rorZpX _ | .rorAbsX _
    => .ROR
  | .rraIndX _ | .rraZp _ | .rraAbs _ | .rraIndY _ | .rraZpX _ | .rraAbsY _ | .rraAbsX _
    => .RRA
  | .rti
    => .RTI
  | .rts
    => .RTS
  | .saxIndX _ | .saxZp _ | .saxAbs _ | .saxZpY _
    => .SAX
  | .sbcIndX _ | .sbcZp _ | .sbcImm _ | .sbcImmEB _ | .sbcAbs _ | .sbcIndY _ | .sbcZpX _ | .sbcAbsY _ | .sbcAbsX _
    => .SBC
  | .sbxImm _
    => .SBX
  | .sec
    => .SEC
  | .sed
    => .SED
  | .sei
    => .SEI
  | .shaIndY _ | .shaAbsY _
    => .SHA
  | .shxAbsY _
    => .SHX
  | .shyAbsX _
    => .SHY
  | .sloIndX _ | .sloZp _ | .sloAbs _ | .sloIndY _ | .sloZpX _ | .sloAbsY _ | .sloAbsX _
    => .SLO
  | .sreIndX _ | .sreZp _ | .sreAbs _ | .sreIndY _ | .sreZpX _ | .sreAbsY _ | .sreAbsX _
    => .SRE
  | .staIndX _ | .staZp _ | .staAbs _ | .staIndY _ | .staZpX _ | .staAbsY _ | .staAbsX _
    => .STA
  | .stxZp _ | .stxAbs _ | .stxZpY _
    => .STX
  | .styZp _ | .styAbs _ | .styZpX _
    => .STY
  | .tasAbsY _
    => .TAS
  | .tax
    => .TAX
  | .tay
    => .TAY
  | .tsx
    => .TSX
  | .txa
    => .TXA
  | .txs
    => .TXS
  | .tya
    => .TYA

/-- The addressing mode of an instruction's row (R91, R93). -/
def Instr.mode : Instr → Mode
  | .brk | .jam02 | .php | .jam12 | .clc | .nop1A | .jam22 | .plp | .jam32 | .sec | .nop3A | .rti | .jam42 | .pha
  | .jam52 | .cli | .nop5A | .rts | .jam62 | .pla | .jam72 | .sei | .nop7A | .dey | .txa | .jam92 | .tya | .txs
  | .tay | .tax | .jamB2 | .clv | .tsx | .iny | .dex | .jamD2 | .cld | .nopDA | .inx | .nop | .jamF2 | .sed | .nopFA
    => .imp
  | .aslAcc | .rolAcc | .lsrAcc | .rorAcc
    => .acc
  | .oraImm _ | .ancImm0B _ | .andImm _ | .ancImm2B _ | .eorImm _ | .alrImm _ | .adcImm _ | .arrImm _ | .nopImm80 _
  | .nopImm82 _ | .nopImm89 _ | .aneImm _ | .ldyImm _ | .ldxImm _ | .ldaImm _ | .lxaImm _ | .cpyImm _ | .nopImmC2 _
  | .cmpImm _ | .sbxImm _ | .cpxImm _ | .nopImmE2 _ | .sbcImm _ | .sbcImmEB _
    => .imm
  | .nopZp04 _ | .oraZp _ | .aslZp _ | .sloZp _ | .bitZp _ | .andZp _ | .rolZp _ | .rlaZp _ | .nopZp44 _ | .eorZp _
  | .lsrZp _ | .sreZp _ | .nopZp64 _ | .adcZp _ | .rorZp _ | .rraZp _ | .styZp _ | .staZp _ | .stxZp _ | .saxZp _
  | .ldyZp _ | .ldaZp _ | .ldxZp _ | .laxZp _ | .cpyZp _ | .cmpZp _ | .decZp _ | .dcpZp _ | .cpxZp _ | .sbcZp _
  | .incZp _ | .iscZp _
    => .zp
  | .nopZpX14 _ | .oraZpX _ | .aslZpX _ | .sloZpX _ | .nopZpX34 _ | .andZpX _ | .rolZpX _ | .rlaZpX _ | .nopZpX54 _
  | .eorZpX _ | .lsrZpX _ | .sreZpX _ | .nopZpX74 _ | .adcZpX _ | .rorZpX _ | .rraZpX _ | .styZpX _ | .staZpX _
  | .ldyZpX _ | .ldaZpX _ | .nopZpXD4 _ | .cmpZpX _ | .decZpX _ | .dcpZpX _ | .nopZpXF4 _ | .sbcZpX _ | .incZpX _
  | .iscZpX _
    => .zpx
  | .stxZpY _ | .saxZpY _ | .ldxZpY _ | .laxZpY _
    => .zpy
  | .bpl _ | .bmi _ | .bvc _ | .bvs _ | .bcc _ | .bcs _ | .bne _ | .beq _
    => .rel
  | .oraIndX _ | .sloIndX _ | .andIndX _ | .rlaIndX _ | .eorIndX _ | .sreIndX _ | .adcIndX _ | .rraIndX _
  | .staIndX _ | .saxIndX _ | .ldaIndX _ | .laxIndX _ | .cmpIndX _ | .dcpIndX _ | .sbcIndX _ | .iscIndX _
    => .izx
  | .oraIndY _ | .sloIndY _ | .andIndY _ | .rlaIndY _ | .eorIndY _ | .sreIndY _ | .adcIndY _ | .rraIndY _
  | .staIndY _ | .shaIndY _ | .ldaIndY _ | .laxIndY _ | .cmpIndY _ | .dcpIndY _ | .sbcIndY _ | .iscIndY _
    => .izy
  | .nopAbs _ | .oraAbs _ | .aslAbs _ | .sloAbs _ | .jsrAbs _ | .bitAbs _ | .andAbs _ | .rolAbs _ | .rlaAbs _
  | .jmpAbs _ | .eorAbs _ | .lsrAbs _ | .sreAbs _ | .adcAbs _ | .rorAbs _ | .rraAbs _ | .styAbs _ | .staAbs _
  | .stxAbs _ | .saxAbs _ | .ldyAbs _ | .ldaAbs _ | .ldxAbs _ | .laxAbs _ | .cpyAbs _ | .cmpAbs _ | .decAbs _
  | .dcpAbs _ | .cpxAbs _ | .sbcAbs _ | .incAbs _ | .iscAbs _
    => .abs
  | .nopAbsX1C _ | .oraAbsX _ | .aslAbsX _ | .sloAbsX _ | .nopAbsX3C _ | .andAbsX _ | .rolAbsX _ | .rlaAbsX _
  | .nopAbsX5C _ | .eorAbsX _ | .lsrAbsX _ | .sreAbsX _ | .nopAbsX7C _ | .adcAbsX _ | .rorAbsX _ | .rraAbsX _
  | .shyAbsX _ | .staAbsX _ | .ldyAbsX _ | .ldaAbsX _ | .nopAbsXDC _ | .cmpAbsX _ | .decAbsX _ | .dcpAbsX _
  | .nopAbsXFC _ | .sbcAbsX _ | .incAbsX _ | .iscAbsX _
    => .abx
  | .oraAbsY _ | .sloAbsY _ | .andAbsY _ | .rlaAbsY _ | .eorAbsY _ | .sreAbsY _ | .adcAbsY _ | .rraAbsY _
  | .staAbsY _ | .tasAbsY _ | .shxAbsY _ | .shaAbsY _ | .ldaAbsY _ | .lasAbsY _ | .ldxAbsY _ | .laxAbsY _
  | .cmpAbsY _ | .dcpAbsY _ | .sbcAbsY _ | .iscAbsY _
    => .aby
  | .jmpInd _
    => .ind

/-- The operand an instruction carries (R91). -/
def Instr.operands : Instr → Operands
  | .brk | .jam02 | .php | .aslAcc | .jam12 | .clc | .nop1A | .jam22 | .plp | .rolAcc | .jam32 | .sec | .nop3A | .rti
  | .jam42 | .pha | .lsrAcc | .jam52 | .cli | .nop5A | .rts | .jam62 | .pla | .rorAcc | .jam72 | .sei | .nop7A | .dey
  | .txa | .jam92 | .tya | .txs | .tay | .tax | .jamB2 | .clv | .tsx | .iny | .dex | .jamD2 | .cld | .nopDA | .inx
  | .nop | .jamF2 | .sed | .nopFA
    => .none
  | .oraIndX b | .sloIndX b | .nopZp04 b | .oraZp b | .aslZp b | .sloZp b | .oraImm b | .ancImm0B b | .bpl b
  | .oraIndY b | .sloIndY b | .nopZpX14 b | .oraZpX b | .aslZpX b | .sloZpX b | .andIndX b | .rlaIndX b | .bitZp b
  | .andZp b | .rolZp b | .rlaZp b | .andImm b | .ancImm2B b | .bmi b | .andIndY b | .rlaIndY b | .nopZpX34 b
  | .andZpX b | .rolZpX b | .rlaZpX b | .eorIndX b | .sreIndX b | .nopZp44 b | .eorZp b | .lsrZp b | .sreZp b
  | .eorImm b | .alrImm b | .bvc b | .eorIndY b | .sreIndY b | .nopZpX54 b | .eorZpX b | .lsrZpX b | .sreZpX b
  | .adcIndX b | .rraIndX b | .nopZp64 b | .adcZp b | .rorZp b | .rraZp b | .adcImm b | .arrImm b | .bvs b
  | .adcIndY b | .rraIndY b | .nopZpX74 b | .adcZpX b | .rorZpX b | .rraZpX b | .nopImm80 b | .staIndX b
  | .nopImm82 b | .saxIndX b | .styZp b | .staZp b | .stxZp b | .saxZp b | .nopImm89 b | .aneImm b | .bcc b
  | .staIndY b | .shaIndY b | .styZpX b | .staZpX b | .stxZpY b | .saxZpY b | .ldyImm b | .ldaIndX b | .ldxImm b
  | .laxIndX b | .ldyZp b | .ldaZp b | .ldxZp b | .laxZp b | .ldaImm b | .lxaImm b | .bcs b | .ldaIndY b | .laxIndY b
  | .ldyZpX b | .ldaZpX b | .ldxZpY b | .laxZpY b | .cpyImm b | .cmpIndX b | .nopImmC2 b | .dcpIndX b | .cpyZp b
  | .cmpZp b | .decZp b | .dcpZp b | .cmpImm b | .sbxImm b | .bne b | .cmpIndY b | .dcpIndY b | .nopZpXD4 b
  | .cmpZpX b | .decZpX b | .dcpZpX b | .cpxImm b | .sbcIndX b | .nopImmE2 b | .iscIndX b | .cpxZp b | .sbcZp b
  | .incZp b | .iscZp b | .sbcImm b | .sbcImmEB b | .beq b | .sbcIndY b | .iscIndY b | .nopZpXF4 b | .sbcZpX b
  | .incZpX b | .iscZpX b
    => .byte b
  | .nopAbs w | .oraAbs w | .aslAbs w | .sloAbs w | .oraAbsY w | .sloAbsY w | .nopAbsX1C w | .oraAbsX w | .aslAbsX w
  | .sloAbsX w | .jsrAbs w | .bitAbs w | .andAbs w | .rolAbs w | .rlaAbs w | .andAbsY w | .rlaAbsY w | .nopAbsX3C w
  | .andAbsX w | .rolAbsX w | .rlaAbsX w | .jmpAbs w | .eorAbs w | .lsrAbs w | .sreAbs w | .eorAbsY w | .sreAbsY w
  | .nopAbsX5C w | .eorAbsX w | .lsrAbsX w | .sreAbsX w | .jmpInd w | .adcAbs w | .rorAbs w | .rraAbs w | .adcAbsY w
  | .rraAbsY w | .nopAbsX7C w | .adcAbsX w | .rorAbsX w | .rraAbsX w | .styAbs w | .staAbs w | .stxAbs w | .saxAbs w
  | .staAbsY w | .tasAbsY w | .shyAbsX w | .staAbsX w | .shxAbsY w | .shaAbsY w | .ldyAbs w | .ldaAbs w | .ldxAbs w
  | .laxAbs w | .ldaAbsY w | .lasAbsY w | .ldyAbsX w | .ldaAbsX w | .ldxAbsY w | .laxAbsY w | .cpyAbs w | .cmpAbs w
  | .decAbs w | .dcpAbs w | .cmpAbsY w | .dcpAbsY w | .nopAbsXDC w | .cmpAbsX w | .decAbsX w | .dcpAbsX w | .cpxAbs w
  | .sbcAbs w | .incAbs w | .iscAbs w | .sbcAbsY w | .iscAbsY w | .nopAbsXFC w | .sbcAbsX w | .incAbsX w | .iscAbsX w
    => .word w

end Sys2Proof
end

