-- ==== Sys2Proof/WellFormed.lean ====
section
/-! DEFINITION. Well-formedness. The operand types carry every range (a byte is 8 bits, an address 16), and no operand value is reserved (R95, R96), so the one check left is that an operand fits its addressing mode (R91). -/

namespace Sys2Proof

/-- Whether an operand has the shape its mode's format gives it (R91): no byte, one byte, or two. -/
def Mode.fits : Mode → Operands → Bool
  | .imp, .none | .acc, .none => true
  | .imm, .byte _ | .zp, .byte _ | .zpx, .byte _ | .zpy, .byte _ => true
  | .rel, .byte _ | .izx, .byte _ | .izy, .byte _ => true
  | .abs, .word _ | .abx, .word _ | .aby, .word _ | .ind, .word _ => true
  | _, _ => false

/-- An instruction is well formed when its operand fits its mode. Every term of `Instr` is (Sys2Proof.Laws.FormatFits): the constructors leave no room for another. -/
def Instr.wellFormed (i : Instr) : Bool := i.mode.fits i.operands

end Sys2Proof
end

