-- ==== Sys2Proof/Decode.lean ====
section
/-! DEFINITION. Instruction bytes to instructions and back (R90 to R97), with the byte-order and extension helpers both use. `decode` is total: every opcode byte is an instruction (R95), and a byte list is rejected, by name, only where it ends before the instruction does. `encode` is written from the opcode of each row. -/

namespace Sys2Proof

/-- `lo(w)` (R8). -/
def lo (w : Word) : Byte := w.extractLsb' 0 8

/-- `hi(w)` (R8). -/
def hi (w : Word) : Byte := w.extractLsb' 8 8

/-- `(h << 8) | l` (R8, R64): a high and a low byte as a word. -/
def joinWord (h l : Byte) : Word := h ++ l

/-- `zext_16(b)` (R8). -/
def zext16 (b : Byte) : Word := b.setWidth 16

/-- `sext_16(b)` (R8): bit 7 copied into bits 15 to 8. -/
def sext16 (b : Byte) : Word := b.signExtend 16

/-- How many operand bytes a format has (R91). -/
def Mode.operandCount : Mode → Nat
  | .imp | .acc => 0
  | .imm | .zp | .zpx | .zpy | .rel | .izx | .izy => 1
  | .abs | .abx | .aby | .ind => 2

/-- The length of an instruction in bytes (R91): the opcode and its operand bytes. BRK's is 1 (D28); its meaning skips one byte more. -/
def Instr.length (i : Instr) : Nat := 1 + i.mode.operandCount

/-- Row 0x of the opcode table (R93). The last column is the wildcard: a nibble has sixteen values. -/
def decodeRow0 (lo : BitVec 4) (b : Byte) (w : Word) : Instr :=
  match lo with
  | 0x0#4 => .brk
  | 0x1#4 => .oraIndX b
  | 0x2#4 => .jam02
  | 0x3#4 => .sloIndX b
  | 0x4#4 => .nopZp04 b
  | 0x5#4 => .oraZp b
  | 0x6#4 => .aslZp b
  | 0x7#4 => .sloZp b
  | 0x8#4 => .php
  | 0x9#4 => .oraImm b
  | 0xA#4 => .aslAcc
  | 0xB#4 => .ancImm0B b
  | 0xC#4 => .nopAbs w
  | 0xD#4 => .oraAbs w
  | 0xE#4 => .aslAbs w
  | _ => .sloAbs w

/-- Row 1x of the opcode table (R93). The last column is the wildcard: a nibble has sixteen values. -/
def decodeRow1 (lo : BitVec 4) (b : Byte) (w : Word) : Instr :=
  match lo with
  | 0x0#4 => .bpl b
  | 0x1#4 => .oraIndY b
  | 0x2#4 => .jam12
  | 0x3#4 => .sloIndY b
  | 0x4#4 => .nopZpX14 b
  | 0x5#4 => .oraZpX b
  | 0x6#4 => .aslZpX b
  | 0x7#4 => .sloZpX b
  | 0x8#4 => .clc
  | 0x9#4 => .oraAbsY w
  | 0xA#4 => .nop1A
  | 0xB#4 => .sloAbsY w
  | 0xC#4 => .nopAbsX1C w
  | 0xD#4 => .oraAbsX w
  | 0xE#4 => .aslAbsX w
  | _ => .sloAbsX w

/-- Row 2x of the opcode table (R93). The last column is the wildcard: a nibble has sixteen values. -/
def decodeRow2 (lo : BitVec 4) (b : Byte) (w : Word) : Instr :=
  match lo with
  | 0x0#4 => .jsrAbs w
  | 0x1#4 => .andIndX b
  | 0x2#4 => .jam22
  | 0x3#4 => .rlaIndX b
  | 0x4#4 => .bitZp b
  | 0x5#4 => .andZp b
  | 0x6#4 => .rolZp b
  | 0x7#4 => .rlaZp b
  | 0x8#4 => .plp
  | 0x9#4 => .andImm b
  | 0xA#4 => .rolAcc
  | 0xB#4 => .ancImm2B b
  | 0xC#4 => .bitAbs w
  | 0xD#4 => .andAbs w
  | 0xE#4 => .rolAbs w
  | _ => .rlaAbs w

/-- Row 3x of the opcode table (R93). The last column is the wildcard: a nibble has sixteen values. -/
def decodeRow3 (lo : BitVec 4) (b : Byte) (w : Word) : Instr :=
  match lo with
  | 0x0#4 => .bmi b
  | 0x1#4 => .andIndY b
  | 0x2#4 => .jam32
  | 0x3#4 => .rlaIndY b
  | 0x4#4 => .nopZpX34 b
  | 0x5#4 => .andZpX b
  | 0x6#4 => .rolZpX b
  | 0x7#4 => .rlaZpX b
  | 0x8#4 => .sec
  | 0x9#4 => .andAbsY w
  | 0xA#4 => .nop3A
  | 0xB#4 => .rlaAbsY w
  | 0xC#4 => .nopAbsX3C w
  | 0xD#4 => .andAbsX w
  | 0xE#4 => .rolAbsX w
  | _ => .rlaAbsX w

/-- Row 4x of the opcode table (R93). The last column is the wildcard: a nibble has sixteen values. -/
def decodeRow4 (lo : BitVec 4) (b : Byte) (w : Word) : Instr :=
  match lo with
  | 0x0#4 => .rti
  | 0x1#4 => .eorIndX b
  | 0x2#4 => .jam42
  | 0x3#4 => .sreIndX b
  | 0x4#4 => .nopZp44 b
  | 0x5#4 => .eorZp b
  | 0x6#4 => .lsrZp b
  | 0x7#4 => .sreZp b
  | 0x8#4 => .pha
  | 0x9#4 => .eorImm b
  | 0xA#4 => .lsrAcc
  | 0xB#4 => .alrImm b
  | 0xC#4 => .jmpAbs w
  | 0xD#4 => .eorAbs w
  | 0xE#4 => .lsrAbs w
  | _ => .sreAbs w

/-- Row 5x of the opcode table (R93). The last column is the wildcard: a nibble has sixteen values. -/
def decodeRow5 (lo : BitVec 4) (b : Byte) (w : Word) : Instr :=
  match lo with
  | 0x0#4 => .bvc b
  | 0x1#4 => .eorIndY b
  | 0x2#4 => .jam52
  | 0x3#4 => .sreIndY b
  | 0x4#4 => .nopZpX54 b
  | 0x5#4 => .eorZpX b
  | 0x6#4 => .lsrZpX b
  | 0x7#4 => .sreZpX b
  | 0x8#4 => .cli
  | 0x9#4 => .eorAbsY w
  | 0xA#4 => .nop5A
  | 0xB#4 => .sreAbsY w
  | 0xC#4 => .nopAbsX5C w
  | 0xD#4 => .eorAbsX w
  | 0xE#4 => .lsrAbsX w
  | _ => .sreAbsX w

/-- Row 6x of the opcode table (R93). The last column is the wildcard: a nibble has sixteen values. -/
def decodeRow6 (lo : BitVec 4) (b : Byte) (w : Word) : Instr :=
  match lo with
  | 0x0#4 => .rts
  | 0x1#4 => .adcIndX b
  | 0x2#4 => .jam62
  | 0x3#4 => .rraIndX b
  | 0x4#4 => .nopZp64 b
  | 0x5#4 => .adcZp b
  | 0x6#4 => .rorZp b
  | 0x7#4 => .rraZp b
  | 0x8#4 => .pla
  | 0x9#4 => .adcImm b
  | 0xA#4 => .rorAcc
  | 0xB#4 => .arrImm b
  | 0xC#4 => .jmpInd w
  | 0xD#4 => .adcAbs w
  | 0xE#4 => .rorAbs w
  | _ => .rraAbs w

/-- Row 7x of the opcode table (R93). The last column is the wildcard: a nibble has sixteen values. -/
def decodeRow7 (lo : BitVec 4) (b : Byte) (w : Word) : Instr :=
  match lo with
  | 0x0#4 => .bvs b
  | 0x1#4 => .adcIndY b
  | 0x2#4 => .jam72
  | 0x3#4 => .rraIndY b
  | 0x4#4 => .nopZpX74 b
  | 0x5#4 => .adcZpX b
  | 0x6#4 => .rorZpX b
  | 0x7#4 => .rraZpX b
  | 0x8#4 => .sei
  | 0x9#4 => .adcAbsY w
  | 0xA#4 => .nop7A
  | 0xB#4 => .rraAbsY w
  | 0xC#4 => .nopAbsX7C w
  | 0xD#4 => .adcAbsX w
  | 0xE#4 => .rorAbsX w
  | _ => .rraAbsX w

/-- Row 8x of the opcode table (R93). The last column is the wildcard: a nibble has sixteen values. -/
def decodeRow8 (lo : BitVec 4) (b : Byte) (w : Word) : Instr :=
  match lo with
  | 0x0#4 => .nopImm80 b
  | 0x1#4 => .staIndX b
  | 0x2#4 => .nopImm82 b
  | 0x3#4 => .saxIndX b
  | 0x4#4 => .styZp b
  | 0x5#4 => .staZp b
  | 0x6#4 => .stxZp b
  | 0x7#4 => .saxZp b
  | 0x8#4 => .dey
  | 0x9#4 => .nopImm89 b
  | 0xA#4 => .txa
  | 0xB#4 => .aneImm b
  | 0xC#4 => .styAbs w
  | 0xD#4 => .staAbs w
  | 0xE#4 => .stxAbs w
  | _ => .saxAbs w

/-- Row 9x of the opcode table (R93). The last column is the wildcard: a nibble has sixteen values. -/
def decodeRow9 (lo : BitVec 4) (b : Byte) (w : Word) : Instr :=
  match lo with
  | 0x0#4 => .bcc b
  | 0x1#4 => .staIndY b
  | 0x2#4 => .jam92
  | 0x3#4 => .shaIndY b
  | 0x4#4 => .styZpX b
  | 0x5#4 => .staZpX b
  | 0x6#4 => .stxZpY b
  | 0x7#4 => .saxZpY b
  | 0x8#4 => .tya
  | 0x9#4 => .staAbsY w
  | 0xA#4 => .txs
  | 0xB#4 => .tasAbsY w
  | 0xC#4 => .shyAbsX w
  | 0xD#4 => .staAbsX w
  | 0xE#4 => .shxAbsY w
  | _ => .shaAbsY w

/-- Row Ax of the opcode table (R93). The last column is the wildcard: a nibble has sixteen values. -/
def decodeRowA (lo : BitVec 4) (b : Byte) (w : Word) : Instr :=
  match lo with
  | 0x0#4 => .ldyImm b
  | 0x1#4 => .ldaIndX b
  | 0x2#4 => .ldxImm b
  | 0x3#4 => .laxIndX b
  | 0x4#4 => .ldyZp b
  | 0x5#4 => .ldaZp b
  | 0x6#4 => .ldxZp b
  | 0x7#4 => .laxZp b
  | 0x8#4 => .tay
  | 0x9#4 => .ldaImm b
  | 0xA#4 => .tax
  | 0xB#4 => .lxaImm b
  | 0xC#4 => .ldyAbs w
  | 0xD#4 => .ldaAbs w
  | 0xE#4 => .ldxAbs w
  | _ => .laxAbs w

/-- Row Bx of the opcode table (R93). The last column is the wildcard: a nibble has sixteen values. -/
def decodeRowB (lo : BitVec 4) (b : Byte) (w : Word) : Instr :=
  match lo with
  | 0x0#4 => .bcs b
  | 0x1#4 => .ldaIndY b
  | 0x2#4 => .jamB2
  | 0x3#4 => .laxIndY b
  | 0x4#4 => .ldyZpX b
  | 0x5#4 => .ldaZpX b
  | 0x6#4 => .ldxZpY b
  | 0x7#4 => .laxZpY b
  | 0x8#4 => .clv
  | 0x9#4 => .ldaAbsY w
  | 0xA#4 => .tsx
  | 0xB#4 => .lasAbsY w
  | 0xC#4 => .ldyAbsX w
  | 0xD#4 => .ldaAbsX w
  | 0xE#4 => .ldxAbsY w
  | _ => .laxAbsY w

/-- Row Cx of the opcode table (R93). The last column is the wildcard: a nibble has sixteen values. -/
def decodeRowC (lo : BitVec 4) (b : Byte) (w : Word) : Instr :=
  match lo with
  | 0x0#4 => .cpyImm b
  | 0x1#4 => .cmpIndX b
  | 0x2#4 => .nopImmC2 b
  | 0x3#4 => .dcpIndX b
  | 0x4#4 => .cpyZp b
  | 0x5#4 => .cmpZp b
  | 0x6#4 => .decZp b
  | 0x7#4 => .dcpZp b
  | 0x8#4 => .iny
  | 0x9#4 => .cmpImm b
  | 0xA#4 => .dex
  | 0xB#4 => .sbxImm b
  | 0xC#4 => .cpyAbs w
  | 0xD#4 => .cmpAbs w
  | 0xE#4 => .decAbs w
  | _ => .dcpAbs w

/-- Row Dx of the opcode table (R93). The last column is the wildcard: a nibble has sixteen values. -/
def decodeRowD (lo : BitVec 4) (b : Byte) (w : Word) : Instr :=
  match lo with
  | 0x0#4 => .bne b
  | 0x1#4 => .cmpIndY b
  | 0x2#4 => .jamD2
  | 0x3#4 => .dcpIndY b
  | 0x4#4 => .nopZpXD4 b
  | 0x5#4 => .cmpZpX b
  | 0x6#4 => .decZpX b
  | 0x7#4 => .dcpZpX b
  | 0x8#4 => .cld
  | 0x9#4 => .cmpAbsY w
  | 0xA#4 => .nopDA
  | 0xB#4 => .dcpAbsY w
  | 0xC#4 => .nopAbsXDC w
  | 0xD#4 => .cmpAbsX w
  | 0xE#4 => .decAbsX w
  | _ => .dcpAbsX w

/-- Row Ex of the opcode table (R93). The last column is the wildcard: a nibble has sixteen values. -/
def decodeRowE (lo : BitVec 4) (b : Byte) (w : Word) : Instr :=
  match lo with
  | 0x0#4 => .cpxImm b
  | 0x1#4 => .sbcIndX b
  | 0x2#4 => .nopImmE2 b
  | 0x3#4 => .iscIndX b
  | 0x4#4 => .cpxZp b
  | 0x5#4 => .sbcZp b
  | 0x6#4 => .incZp b
  | 0x7#4 => .iscZp b
  | 0x8#4 => .inx
  | 0x9#4 => .sbcImm b
  | 0xA#4 => .nop
  | 0xB#4 => .sbcImmEB b
  | 0xC#4 => .cpxAbs w
  | 0xD#4 => .sbcAbs w
  | 0xE#4 => .incAbs w
  | _ => .iscAbs w

/-- Row Fx of the opcode table (R93). The last column is the wildcard: a nibble has sixteen values. -/
def decodeRowF (lo : BitVec 4) (b : Byte) (w : Word) : Instr :=
  match lo with
  | 0x0#4 => .beq b
  | 0x1#4 => .sbcIndY b
  | 0x2#4 => .jamF2
  | 0x3#4 => .iscIndY b
  | 0x4#4 => .nopZpXF4 b
  | 0x5#4 => .sbcZpX b
  | 0x6#4 => .incZpX b
  | 0x7#4 => .iscZpX b
  | 0x8#4 => .sed
  | 0x9#4 => .sbcAbsY w
  | 0xA#4 => .nopFA
  | 0xB#4 => .iscAbsY w
  | 0xC#4 => .nopAbsXFC w
  | 0xD#4 => .sbcAbsX w
  | 0xE#4 => .incAbsX w
  | _ => .iscAbsX w

/-- The decoder's table (R93, R95): the instruction an opcode byte selects, given the two bytes that follow it, of which the format takes none, the first, or both as a little-endian word (R92). -/
def decodeOpcode (opcode b1 b2 : Byte) : Instr :=
  let low := opcode.extractLsb' 0 4
  let w := joinWord b2 b1
  match opcode.extractLsb' 4 4 with
  | 0x0#4 => decodeRow0 low b1 w
  | 0x1#4 => decodeRow1 low b1 w
  | 0x2#4 => decodeRow2 low b1 w
  | 0x3#4 => decodeRow3 low b1 w
  | 0x4#4 => decodeRow4 low b1 w
  | 0x5#4 => decodeRow5 low b1 w
  | 0x6#4 => decodeRow6 low b1 w
  | 0x7#4 => decodeRow7 low b1 w
  | 0x8#4 => decodeRow8 low b1 w
  | 0x9#4 => decodeRow9 low b1 w
  | 0xA#4 => decodeRowA low b1 w
  | 0xB#4 => decodeRowB low b1 w
  | 0xC#4 => decodeRowC low b1 w
  | 0xD#4 => decodeRowD low b1 w
  | 0xE#4 => decodeRowE low b1 w
  | _ => decodeRowF low b1 w

/-- Why a list of bytes is no instruction: it is too short. No byte value is rejected (R95, R96). -/
inductive DecodeError where
  /-- No opcode byte. -/
  | noOpcode
  /-- The list ends before the operand bytes of this opcode do. -/
  | truncatedOperand (opcode : Byte)
  deriving DecidableEq, Repr

/-- The instruction at the front of a list of bytes, and the bytes after it (R90, R91). -/
def decode : List Byte → Except DecodeError (Instr × List Byte)
  | [] => .error .noOpcode
  | opcode :: rest =>
    match (decodeOpcode opcode 0#8 0#8).mode.operandCount, rest with
    | 0, rest => .ok (decodeOpcode opcode 0#8 0#8, rest)
    | 1, b1 :: rest => .ok (decodeOpcode opcode b1 0#8, rest)
    | 2, b1 :: b2 :: rest => .ok (decodeOpcode opcode b1 b2, rest)
    | _, _ => .error (.truncatedOperand opcode)

/-- The opcode byte of each row of the opcode table (R93). -/
def Instr.opcode : Instr → Byte
  | .brk => 0x00#8
  | .oraIndX _ => 0x01#8
  | .jam02 => 0x02#8
  | .sloIndX _ => 0x03#8
  | .nopZp04 _ => 0x04#8
  | .oraZp _ => 0x05#8
  | .aslZp _ => 0x06#8
  | .sloZp _ => 0x07#8
  | .php => 0x08#8
  | .oraImm _ => 0x09#8
  | .aslAcc => 0x0A#8
  | .ancImm0B _ => 0x0B#8
  | .nopAbs _ => 0x0C#8
  | .oraAbs _ => 0x0D#8
  | .aslAbs _ => 0x0E#8
  | .sloAbs _ => 0x0F#8
  | .bpl _ => 0x10#8
  | .oraIndY _ => 0x11#8
  | .jam12 => 0x12#8
  | .sloIndY _ => 0x13#8
  | .nopZpX14 _ => 0x14#8
  | .oraZpX _ => 0x15#8
  | .aslZpX _ => 0x16#8
  | .sloZpX _ => 0x17#8
  | .clc => 0x18#8
  | .oraAbsY _ => 0x19#8
  | .nop1A => 0x1A#8
  | .sloAbsY _ => 0x1B#8
  | .nopAbsX1C _ => 0x1C#8
  | .oraAbsX _ => 0x1D#8
  | .aslAbsX _ => 0x1E#8
  | .sloAbsX _ => 0x1F#8
  | .jsrAbs _ => 0x20#8
  | .andIndX _ => 0x21#8
  | .jam22 => 0x22#8
  | .rlaIndX _ => 0x23#8
  | .bitZp _ => 0x24#8
  | .andZp _ => 0x25#8
  | .rolZp _ => 0x26#8
  | .rlaZp _ => 0x27#8
  | .plp => 0x28#8
  | .andImm _ => 0x29#8
  | .rolAcc => 0x2A#8
  | .ancImm2B _ => 0x2B#8
  | .bitAbs _ => 0x2C#8
  | .andAbs _ => 0x2D#8
  | .rolAbs _ => 0x2E#8
  | .rlaAbs _ => 0x2F#8
  | .bmi _ => 0x30#8
  | .andIndY _ => 0x31#8
  | .jam32 => 0x32#8
  | .rlaIndY _ => 0x33#8
  | .nopZpX34 _ => 0x34#8
  | .andZpX _ => 0x35#8
  | .rolZpX _ => 0x36#8
  | .rlaZpX _ => 0x37#8
  | .sec => 0x38#8
  | .andAbsY _ => 0x39#8
  | .nop3A => 0x3A#8
  | .rlaAbsY _ => 0x3B#8
  | .nopAbsX3C _ => 0x3C#8
  | .andAbsX _ => 0x3D#8
  | .rolAbsX _ => 0x3E#8
  | .rlaAbsX _ => 0x3F#8
  | .rti => 0x40#8
  | .eorIndX _ => 0x41#8
  | .jam42 => 0x42#8
  | .sreIndX _ => 0x43#8
  | .nopZp44 _ => 0x44#8
  | .eorZp _ => 0x45#8
  | .lsrZp _ => 0x46#8
  | .sreZp _ => 0x47#8
  | .pha => 0x48#8
  | .eorImm _ => 0x49#8
  | .lsrAcc => 0x4A#8
  | .alrImm _ => 0x4B#8
  | .jmpAbs _ => 0x4C#8
  | .eorAbs _ => 0x4D#8
  | .lsrAbs _ => 0x4E#8
  | .sreAbs _ => 0x4F#8
  | .bvc _ => 0x50#8
  | .eorIndY _ => 0x51#8
  | .jam52 => 0x52#8
  | .sreIndY _ => 0x53#8
  | .nopZpX54 _ => 0x54#8
  | .eorZpX _ => 0x55#8
  | .lsrZpX _ => 0x56#8
  | .sreZpX _ => 0x57#8
  | .cli => 0x58#8
  | .eorAbsY _ => 0x59#8
  | .nop5A => 0x5A#8
  | .sreAbsY _ => 0x5B#8
  | .nopAbsX5C _ => 0x5C#8
  | .eorAbsX _ => 0x5D#8
  | .lsrAbsX _ => 0x5E#8
  | .sreAbsX _ => 0x5F#8
  | .rts => 0x60#8
  | .adcIndX _ => 0x61#8
  | .jam62 => 0x62#8
  | .rraIndX _ => 0x63#8
  | .nopZp64 _ => 0x64#8
  | .adcZp _ => 0x65#8
  | .rorZp _ => 0x66#8
  | .rraZp _ => 0x67#8
  | .pla => 0x68#8
  | .adcImm _ => 0x69#8
  | .rorAcc => 0x6A#8
  | .arrImm _ => 0x6B#8
  | .jmpInd _ => 0x6C#8
  | .adcAbs _ => 0x6D#8
  | .rorAbs _ => 0x6E#8
  | .rraAbs _ => 0x6F#8
  | .bvs _ => 0x70#8
  | .adcIndY _ => 0x71#8
  | .jam72 => 0x72#8
  | .rraIndY _ => 0x73#8
  | .nopZpX74 _ => 0x74#8
  | .adcZpX _ => 0x75#8
  | .rorZpX _ => 0x76#8
  | .rraZpX _ => 0x77#8
  | .sei => 0x78#8
  | .adcAbsY _ => 0x79#8
  | .nop7A => 0x7A#8
  | .rraAbsY _ => 0x7B#8
  | .nopAbsX7C _ => 0x7C#8
  | .adcAbsX _ => 0x7D#8
  | .rorAbsX _ => 0x7E#8
  | .rraAbsX _ => 0x7F#8
  | .nopImm80 _ => 0x80#8
  | .staIndX _ => 0x81#8
  | .nopImm82 _ => 0x82#8
  | .saxIndX _ => 0x83#8
  | .styZp _ => 0x84#8
  | .staZp _ => 0x85#8
  | .stxZp _ => 0x86#8
  | .saxZp _ => 0x87#8
  | .dey => 0x88#8
  | .nopImm89 _ => 0x89#8
  | .txa => 0x8A#8
  | .aneImm _ => 0x8B#8
  | .styAbs _ => 0x8C#8
  | .staAbs _ => 0x8D#8
  | .stxAbs _ => 0x8E#8
  | .saxAbs _ => 0x8F#8
  | .bcc _ => 0x90#8
  | .staIndY _ => 0x91#8
  | .jam92 => 0x92#8
  | .shaIndY _ => 0x93#8
  | .styZpX _ => 0x94#8
  | .staZpX _ => 0x95#8
  | .stxZpY _ => 0x96#8
  | .saxZpY _ => 0x97#8
  | .tya => 0x98#8
  | .staAbsY _ => 0x99#8
  | .txs => 0x9A#8
  | .tasAbsY _ => 0x9B#8
  | .shyAbsX _ => 0x9C#8
  | .staAbsX _ => 0x9D#8
  | .shxAbsY _ => 0x9E#8
  | .shaAbsY _ => 0x9F#8
  | .ldyImm _ => 0xA0#8
  | .ldaIndX _ => 0xA1#8
  | .ldxImm _ => 0xA2#8
  | .laxIndX _ => 0xA3#8
  | .ldyZp _ => 0xA4#8
  | .ldaZp _ => 0xA5#8
  | .ldxZp _ => 0xA6#8
  | .laxZp _ => 0xA7#8
  | .tay => 0xA8#8
  | .ldaImm _ => 0xA9#8
  | .tax => 0xAA#8
  | .lxaImm _ => 0xAB#8
  | .ldyAbs _ => 0xAC#8
  | .ldaAbs _ => 0xAD#8
  | .ldxAbs _ => 0xAE#8
  | .laxAbs _ => 0xAF#8
  | .bcs _ => 0xB0#8
  | .ldaIndY _ => 0xB1#8
  | .jamB2 => 0xB2#8
  | .laxIndY _ => 0xB3#8
  | .ldyZpX _ => 0xB4#8
  | .ldaZpX _ => 0xB5#8
  | .ldxZpY _ => 0xB6#8
  | .laxZpY _ => 0xB7#8
  | .clv => 0xB8#8
  | .ldaAbsY _ => 0xB9#8
  | .tsx => 0xBA#8
  | .lasAbsY _ => 0xBB#8
  | .ldyAbsX _ => 0xBC#8
  | .ldaAbsX _ => 0xBD#8
  | .ldxAbsY _ => 0xBE#8
  | .laxAbsY _ => 0xBF#8
  | .cpyImm _ => 0xC0#8
  | .cmpIndX _ => 0xC1#8
  | .nopImmC2 _ => 0xC2#8
  | .dcpIndX _ => 0xC3#8
  | .cpyZp _ => 0xC4#8
  | .cmpZp _ => 0xC5#8
  | .decZp _ => 0xC6#8
  | .dcpZp _ => 0xC7#8
  | .iny => 0xC8#8
  | .cmpImm _ => 0xC9#8
  | .dex => 0xCA#8
  | .sbxImm _ => 0xCB#8
  | .cpyAbs _ => 0xCC#8
  | .cmpAbs _ => 0xCD#8
  | .decAbs _ => 0xCE#8
  | .dcpAbs _ => 0xCF#8
  | .bne _ => 0xD0#8
  | .cmpIndY _ => 0xD1#8
  | .jamD2 => 0xD2#8
  | .dcpIndY _ => 0xD3#8
  | .nopZpXD4 _ => 0xD4#8
  | .cmpZpX _ => 0xD5#8
  | .decZpX _ => 0xD6#8
  | .dcpZpX _ => 0xD7#8
  | .cld => 0xD8#8
  | .cmpAbsY _ => 0xD9#8
  | .nopDA => 0xDA#8
  | .dcpAbsY _ => 0xDB#8
  | .nopAbsXDC _ => 0xDC#8
  | .cmpAbsX _ => 0xDD#8
  | .decAbsX _ => 0xDE#8
  | .dcpAbsX _ => 0xDF#8
  | .cpxImm _ => 0xE0#8
  | .sbcIndX _ => 0xE1#8
  | .nopImmE2 _ => 0xE2#8
  | .iscIndX _ => 0xE3#8
  | .cpxZp _ => 0xE4#8
  | .sbcZp _ => 0xE5#8
  | .incZp _ => 0xE6#8
  | .iscZp _ => 0xE7#8
  | .inx => 0xE8#8
  | .sbcImm _ => 0xE9#8
  | .nop => 0xEA#8
  | .sbcImmEB _ => 0xEB#8
  | .cpxAbs _ => 0xEC#8
  | .sbcAbs _ => 0xED#8
  | .incAbs _ => 0xEE#8
  | .iscAbs _ => 0xEF#8
  | .beq _ => 0xF0#8
  | .sbcIndY _ => 0xF1#8
  | .jamF2 => 0xF2#8
  | .iscIndY _ => 0xF3#8
  | .nopZpXF4 _ => 0xF4#8
  | .sbcZpX _ => 0xF5#8
  | .incZpX _ => 0xF6#8
  | .iscZpX _ => 0xF7#8
  | .sed => 0xF8#8
  | .sbcAbsY _ => 0xF9#8
  | .nopFA => 0xFA#8
  | .iscAbsY _ => 0xFB#8
  | .nopAbsXFC _ => 0xFC#8
  | .sbcAbsX _ => 0xFD#8
  | .incAbsX _ => 0xFE#8
  | .iscAbsX _ => 0xFF#8

/-- An operand as bytes, the low byte of a word first (R91, R92). -/
def Operands.bytes : Operands → List Byte
  | .none => []
  | .byte b => [b]
  | .word w => [lo w, hi w]

/-- The bytes of an instruction (R90, R91): the opcode, then its operand. -/
def encode (i : Instr) : List Byte := i.opcode :: i.operands.bytes

/-- The instruction this decoder reads from a table word: byte k of the instruction is bits 8k+7 to 8k of `w`, and every bit from `nbits` on is 0. -/
def decodeTableWord (nbits w : Nat) : Option Instr :=
  let v := w % 2 ^ nbits
  match decode [BitVec.ofNat 8 v, BitVec.ofNat 8 (v >>> 8), BitVec.ofNat 8 (v >>> 16)] with
  | .ok (i, _) => some i
  | .error _ => none

end Sys2Proof
end

