-- ==== Sys2Proof/Machine/Memory.lean ====
section
/-! DEFINITION. The bus (20_memory.md): one flat space of 65,536 bytes, read and written one byte at a time (R60 to R62, R67), every address succeeding (R73), and the two ways the core forms a word from it (R64, R65). -/

namespace Sys2Proof.Machine

/-- What an address that nothing has written reads as. DESIGN CHOICE, unsafe: the spec leaves it to the embedder's bus (K-UNINIT, R333; log entry 1). -/
def unlistedByte : Byte := 0x00#8

/-- The byte listed at a key, or `unlistedByte`. -/
def Memory.lookup : Memory → Nat → Byte
  | [], _ => unlistedByte
  | (k, v) :: rest, a => if k = a then v else Memory.lookup rest a

/-- List a byte at its place among the rising keys. -/
def Memory.insert : Memory → Nat → Byte → Memory
  | [], a, v => [(a, v)]
  | (k, w) :: rest, a, v => if a < k then (a, v) :: (k, w) :: rest else (k, w) :: Memory.insert rest a v

/-- Take a key out of the list. -/
def Memory.erase (m : Memory) (a : Nat) : Memory := m.filter (fun cell => cell.1 != a)

/-- `MemRead(a, 1)` (R61). -/
def Memory.read (m : Memory) (a : Word) : Byte := m.lookup a.toNat

/-- `MemWrite(a, 1, v)` (R62), in canonical form: a byte equal to what an unlisted address reads as is not listed. -/
def Memory.write (m : Memory) (a : Word) (v : Byte) : Memory :=
  if v = unlistedByte then m.erase a.toNat else (m.erase a.toNat).insert a.toNat v

/-- `MemRead(a, 2)` (R64): little-endian, the high byte at (a + 1) mod 2^16. -/
def Memory.readWord (m : Memory) (a : Word) : Word := joinWord (m.read (a + 1)) (m.read a)

/-- `ZpRead16(z)` (R65): the high byte at (z + 1) mod 256, inside the zero page. -/
def Memory.readPointer (m : Memory) (z : Byte) : Word := joinWord (m.read (zext16 (z + 1))) (m.read (zext16 z))

/-- The canonical form from a lowest admitted key on: keys rise strictly, are bus addresses, and no entry equals what an unlisted address reads as. -/
def Memory.wfFrom : Nat → Memory → Bool
  | _, [] => true
  | low, (k, v) :: rest => decide (low ≤ k) && decide (k < 0x10000) && (v != unlistedByte) && Memory.wfFrom (k + 1) rest

/-- The canonical form of the bus contents, so that equal contents are equal data. -/
def Memory.wf (m : Memory) : Bool := Memory.wfFrom 0 m

end Sys2Proof.Machine
end

