-- ==== Sys2Proof/Machine/Ops.lean ====
section
/-! DEFINITION. The shared operations: writing one piece of state, the bus, the stack controller (R136, R137, R66), and the one interrupt sequence with its return (R252, R253, R306). -/

namespace Sys2Proof.Machine

/-- What a meaning or a step answers. -/
abbrev Result := Host.Outcome State Fault Refusal

/-- Apply a function to the next state; a fault or a refusal stays what it is. -/
def mapNext (f : State → State) : Result → Result
  | .next s => .next (f s)
  | .fault r => .fault r
  | .refused r => .refused r

def State.setA (s : State) (v : Byte) : State := { s with a := v }
def State.setX (s : State) (v : Byte) : State := { s with x := v }
def State.setY (s : State) (v : Byte) : State := { s with y := v }
def State.setSp (s : State) (v : Byte) : State := { s with sp := v }
def State.setPc (s : State) (v : Word) : State := { s with pc := v }
def State.setP (s : State) (v : Flags) : State := { s with p := v }
def State.setHalted (s : State) (v : Bool) : State := { s with halted := v }
def State.setNmiPending (s : State) (v : Bool) : State := { s with nmiPending := v }
def State.setIrq (s : State) (v : Bool) : State := { s with irq := v }
def State.setMem (s : State) (v : Memory) : State := { s with mem := v }
def State.setClockResult (s : State) (v : Option Nat) : State := { s with clockResult := v }

/-- `MemRead(a, 1)` (R61). -/
def State.read (s : State) (a : Word) : Byte := s.mem.read a

/-- `MemWrite(a, 1, v)` (R62). -/
def State.store (s : State) (a : Word) (v : Byte) : State := s.setMem (s.mem.write a v)

/-- SetNZ on P (R40). -/
def State.setNZ (s : State) (v : Byte) : State := s.setP (s.p.setNZ v)

/-- The address S designates (R33): 0x0100 + S, always in page 1 (R63). -/
def stackAddress (sp : Byte) : Word := joinWord 0x01#8 sp

/-- `Push(v)` (R136): write at 0x0100 + S, then S - 1 mod 256. -/
def State.push (s : State) (v : Byte) : State := (s.store (stackAddress s.sp) v).setSp (s.sp - 1)

/-- `Pop()` (R137): S + 1 mod 256, then read at 0x0100 + S. -/
def State.pop (s : State) : Byte × State := (s.read (stackAddress (s.sp + 1)), s.setSp (s.sp + 1))

/-- Push a word, high byte first (R66). -/
def State.pushWord (s : State) (w : Word) : State := (s.push (hi w)).push (lo w)

/-- Pop a word, low byte first (R66). -/
def State.popWord (s : State) : Word × State :=
  let (l, s1) := s.pop
  let (h, s2) := s1.pop
  (joinWord h l, s2)

/-- The interrupt sequence (R252, R306): push PC (high, low) and PackP(b), set I, and load PC from the vector. A, X, Y, D and the other flags are not touched (C6, D20). -/
def State.enterInterrupt (s : State) (b : Bool) (vector : Word) : State :=
  let s1 := (s.pushWord s.pc).push (s.p.pack b)
  (s1.setP { s1.p with i := true }).setPc (s1.mem.readWord vector)

/-- The vectors of NMI and of IRQ and BRK (R72, R300). -/
def nmiVector : Word := 0xFFFA#16
def irqVector : Word := 0xFFFE#16

/-- The reset vector (R72, R300). -/
def resetVector : Word := 0xFFFC#16

/-- `InterruptEntry(vector)` (R306): PC is not advanced and the pushed bit 4 is 0. -/
def State.interruptEntry (s : State) (vector : Word) : State := s.enterInterrupt false vector

/-- The return from an interrupt (R253, R307): pop P, then PC, to which nothing is added. -/
def State.returnFromInterrupt (s : State) : State :=
  let (v, s1) := s.pop
  let (target, s2) := s1.popWord
  (s2.setP (Flags.unpack v)).setPc target

end Sys2Proof.Machine
end

