-- ==== Sys2Proof/Machine/Operands.lean ====
section
/-! DEFINITION. The addressing_mode_resolver (40_addressing_modes.md): the effective address of every mode, from the operand bytes the instruction carries, X, Y and memory. It writes nothing (R120, C10). Immediate and Relative operands are the instruction's own byte (R121, R133, log entry 6). -/

namespace Sys2Proof.Machine

/-- Zero Page (R125). -/
def eaZp (z : Byte) : Word := zext16 z

/-- Zero Page,X (R126): the sum stays in the zero page. -/
def State.eaZpX (s : State) (z : Byte) : Word := zext16 (z + s.x)

/-- Zero Page,Y (R127). -/
def State.eaZpY (s : State) (z : Byte) : Word := zext16 (z + s.y)

/-- Absolute (R122): no index. -/
def eaAbs (w : Word) : Word := w

/-- Absolute,X (R123): carry into the high byte, mod 2^16. -/
def State.eaAbsX (s : State) (w : Word) : Word := w + zext16 s.x

/-- Absolute,Y (R124). -/
def State.eaAbsY (s : State) (w : Word) : Word := w + zext16 s.y

/-- (Indirect,X) (R131): the pointer is at (z + X) mod 256. -/
def State.eaIndX (s : State) (z : Byte) : Word := s.mem.readPointer (z + s.x)

/-- The unindexed base of (Indirect),Y (R132, R139): the pointer at z. -/
def State.baseIndY (s : State) (z : Byte) : Word := s.mem.readPointer z

/-- (Indirect),Y (R132). -/
def State.eaIndY (s : State) (z : Byte) : Word := s.baseIndY z + zext16 s.y

/-- Indirect (R130): the word at the pointer, its high byte at pointer + 1, or inside the pointer's page where `JMP_IND_PAGE_WRAP` holds (D9). -/
def State.eaInd (s : State) (p : Word) : Word :=
  let second := if s.config.jmpIndPageWrap then joinWord (hi p) (lo p + 1) else p + 1
  joinWord (s.read second) (s.read p)

/-- A resolved operand that is read and written back (R42): an address, or the accumulator sentinel. -/
inductive Operand where
  | addr (a : Word)
  | acc
  deriving DecidableEq, Repr

/-- `Read(op)` (R134). -/
def State.readOperand (s : State) : Operand → Byte
  | .addr a => s.read a
  | .acc => s.a

/-- `Write(op, v)` (R135). -/
def State.writeOperand (s : State) (op : Operand) (v : Byte) : State :=
  match op with
  | .addr a => s.store a v
  | .acc => s.setA v

/-- The effective address an instruction's operand resolves to, where it designates a byte of memory (R120). -/
def State.effectiveAddress (s : State) (m : Mode) (o : Operands) : Option Word :=
  match m, o with
  | .zp, .byte z => some (eaZp z)
  | .zpx, .byte z => some (s.eaZpX z)
  | .zpy, .byte z => some (s.eaZpY z)
  | .izx, .byte z => some (s.eaIndX z)
  | .izy, .byte z => some (s.eaIndY z)
  | .abs, .word w => some (eaAbs w)
  | .abx, .word w => some (s.eaAbsX w)
  | .aby, .word w => some (s.eaAbsY w)
  | .ind, .word w => some (s.eaInd w)
  | _, _ => none

/-- The unindexed base address R139 records for the modes that index a 16-bit address. -/
def State.baseAddress (s : State) (m : Mode) (o : Operands) : Option Word :=
  match m, o with
  | .abx, .word w => some (eaAbs w)
  | .aby, .word w => some (eaAbs w)
  | .izy, .byte z => some (s.baseIndY z)
  | _, _ => none

end Sys2Proof.Machine
end

