-- ==== Sys2Proof/Machine/Arithmetic.lean ====
section
/-! DEFINITION. Meanings of the arithmetic instructions (41_arithmetic.md): ADC and SBC, binary whatever D holds (R150, D7), with the undocumented alias 0xEB (R283). One operation per mnemonic, then one meaning per opcode row, which resolves its mode's operand (R120) and runs the operation. -/

namespace Sys2Proof.Machine

/-- ADC (R150): A + m + C computed exactly; V from the sign bits, C from the ninth bit. -/
def State.opAdc (s : State) (m : Byte) : State :=
  let sum := s.a.toNat + m.toNat + s.p.c.toNat
  let r := BitVec.ofNat 8 sum
  (s.setA r).setP (((s.p.setOverflow s.a m r).setCarry sum).setNZ r)

/-- SBC (R151): ADC with the operand's bitwise complement. -/
def State.opSbc (s : State) (m : Byte) : State := s.opAdc (~~~m)

def execAdcIndX (z : Byte) (s : State) : Result := .next (s.opAdc (s.read (s.eaIndX z)))
def execAdcZp (z : Byte) (s : State) : Result := .next (s.opAdc (s.read (eaZp z)))
def execAdcImm (i : Byte) (s : State) : Result := .next (s.opAdc i)
def execAdcAbs (w : Word) (s : State) : Result := .next (s.opAdc (s.read (eaAbs w)))
def execAdcIndY (z : Byte) (s : State) : Result := .next (s.opAdc (s.read (s.eaIndY z)))
def execAdcZpX (z : Byte) (s : State) : Result := .next (s.opAdc (s.read (s.eaZpX z)))
def execAdcAbsY (w : Word) (s : State) : Result := .next (s.opAdc (s.read (s.eaAbsY w)))
def execAdcAbsX (w : Word) (s : State) : Result := .next (s.opAdc (s.read (s.eaAbsX w)))
def execSbcIndX (z : Byte) (s : State) : Result := .next (s.opSbc (s.read (s.eaIndX z)))
def execSbcZp (z : Byte) (s : State) : Result := .next (s.opSbc (s.read (eaZp z)))
def execSbcImm (i : Byte) (s : State) : Result := .next (s.opSbc i)
def execSbcImmEB (i : Byte) (s : State) : Result := .next (s.opSbc i)
def execSbcAbs (w : Word) (s : State) : Result := .next (s.opSbc (s.read (eaAbs w)))
def execSbcIndY (z : Byte) (s : State) : Result := .next (s.opSbc (s.read (s.eaIndY z)))
def execSbcZpX (z : Byte) (s : State) : Result := .next (s.opSbc (s.read (s.eaZpX z)))
def execSbcAbsY (w : Word) (s : State) : Result := .next (s.opSbc (s.read (s.eaAbsY w)))
def execSbcAbsX (w : Word) (s : State) : Result := .next (s.opSbc (s.read (s.eaAbsX w)))

end Sys2Proof.Machine
end

