-- ==== Sys2Proof/Machine/Compare.lean ====
section
/-! DEFINITION. Meanings of the compare instructions (44_compare.md). One operation per mnemonic, then one meaning per opcode row, which resolves its mode's operand (R120) and runs the operation. -/

namespace Sys2Proof.Machine

/-- `Compare(R, m)` (R180): flags only. -/
def State.opCompare (s : State) (r m : Byte) : State := s.setP (s.p.compare r m)

/-- CMP (R181). -/
def State.opCmp (s : State) (m : Byte) : State := s.opCompare s.a m

/-- CPX (R182). -/
def State.opCpx (s : State) (m : Byte) : State := s.opCompare s.x m

/-- CPY (R183). -/
def State.opCpy (s : State) (m : Byte) : State := s.opCompare s.y m

def execCmpIndX (z : Byte) (s : State) : Result := .next (s.opCmp (s.read (s.eaIndX z)))
def execCmpZp (z : Byte) (s : State) : Result := .next (s.opCmp (s.read (eaZp z)))
def execCmpImm (i : Byte) (s : State) : Result := .next (s.opCmp i)
def execCmpAbs (w : Word) (s : State) : Result := .next (s.opCmp (s.read (eaAbs w)))
def execCmpIndY (z : Byte) (s : State) : Result := .next (s.opCmp (s.read (s.eaIndY z)))
def execCmpZpX (z : Byte) (s : State) : Result := .next (s.opCmp (s.read (s.eaZpX z)))
def execCmpAbsY (w : Word) (s : State) : Result := .next (s.opCmp (s.read (s.eaAbsY w)))
def execCmpAbsX (w : Word) (s : State) : Result := .next (s.opCmp (s.read (s.eaAbsX w)))
def execCpxImm (i : Byte) (s : State) : Result := .next (s.opCpx i)
def execCpxZp (z : Byte) (s : State) : Result := .next (s.opCpx (s.read (eaZp z)))
def execCpxAbs (w : Word) (s : State) : Result := .next (s.opCpx (s.read (eaAbs w)))
def execCpyImm (i : Byte) (s : State) : Result := .next (s.opCpy i)
def execCpyZp (z : Byte) (s : State) : Result := .next (s.opCpy (s.read (eaZp z)))
def execCpyAbs (w : Word) (s : State) : Result := .next (s.opCpy (s.read (eaAbs w)))

end Sys2Proof.Machine
end

