-- ==== Sys2Proof/Machine/IncDec.lean ====
section
/-! DEFINITION. Meanings of the increment and decrement instructions (45_inc_dec.md): mod 256, C and V left alone. One operation per mnemonic, then one meaning per opcode row, which resolves its mode's operand (R120) and runs the operation. -/

namespace Sys2Proof.Machine

/-- INC (R190). -/
def State.opInc (s : State) (op : Operand) : State :=
  (s.writeOperand op (s.readOperand op + 1)).setNZ (s.readOperand op + 1)

/-- DEC (R191). -/
def State.opDec (s : State) (op : Operand) : State :=
  (s.writeOperand op (s.readOperand op - 1)).setNZ (s.readOperand op - 1)

/-- INX (R192), INY (R193), DEX (R194), DEY (R195). -/
def State.opInx (s : State) : State := (s.setX (s.x + 1)).setNZ (s.x + 1)
def State.opIny (s : State) : State := (s.setY (s.y + 1)).setNZ (s.y + 1)
def State.opDex (s : State) : State := (s.setX (s.x - 1)).setNZ (s.x - 1)
def State.opDey (s : State) : State := (s.setY (s.y - 1)).setNZ (s.y - 1)

def execIncZp (z : Byte) (s : State) : Result := .next (s.opInc (.addr (eaZp z)))
def execIncAbs (w : Word) (s : State) : Result := .next (s.opInc (.addr (eaAbs w)))
def execIncZpX (z : Byte) (s : State) : Result := .next (s.opInc (.addr (s.eaZpX z)))
def execIncAbsX (w : Word) (s : State) : Result := .next (s.opInc (.addr (s.eaAbsX w)))
def execDecZp (z : Byte) (s : State) : Result := .next (s.opDec (.addr (eaZp z)))
def execDecAbs (w : Word) (s : State) : Result := .next (s.opDec (.addr (eaAbs w)))
def execDecZpX (z : Byte) (s : State) : Result := .next (s.opDec (.addr (s.eaZpX z)))
def execDecAbsX (w : Word) (s : State) : Result := .next (s.opDec (.addr (s.eaAbsX w)))
def execInx (s : State) : Result := .next (s.opInx)
def execIny (s : State) : Result := .next (s.opIny)
def execDex (s : State) : Result := .next (s.opDex)
def execDey (s : State) : Result := .next (s.opDey)

end Sys2Proof.Machine
end

