-- ==== Sys2Proof/Machine/Logical.lean ====
section
/-! DEFINITION. Meanings of the logical instructions (42_logical.md). One operation per mnemonic, then one meaning per opcode row, which resolves its mode's operand (R120) and runs the operation. -/

namespace Sys2Proof.Machine

/-- AND (R160). -/
def State.opAnd (s : State) (m : Byte) : State := (s.setA (s.a &&& m)).setNZ (s.a &&& m)

/-- ORA (R161). -/
def State.opOra (s : State) (m : Byte) : State := (s.setA (s.a ||| m)).setNZ (s.a ||| m)

/-- EOR (R162). -/
def State.opEor (s : State) (m : Byte) : State := (s.setA (s.a ^^^ m)).setNZ (s.a ^^^ m)

/-- BIT (R163): A is not changed. -/
def State.opBit (s : State) (m : Byte) : State := s.setP (s.p.bitTest s.a m)

def execAndIndX (z : Byte) (s : State) : Result := .next (s.opAnd (s.read (s.eaIndX z)))
def execAndZp (z : Byte) (s : State) : Result := .next (s.opAnd (s.read (eaZp z)))
def execAndImm (i : Byte) (s : State) : Result := .next (s.opAnd i)
def execAndAbs (w : Word) (s : State) : Result := .next (s.opAnd (s.read (eaAbs w)))
def execAndIndY (z : Byte) (s : State) : Result := .next (s.opAnd (s.read (s.eaIndY z)))
def execAndZpX (z : Byte) (s : State) : Result := .next (s.opAnd (s.read (s.eaZpX z)))
def execAndAbsY (w : Word) (s : State) : Result := .next (s.opAnd (s.read (s.eaAbsY w)))
def execAndAbsX (w : Word) (s : State) : Result := .next (s.opAnd (s.read (s.eaAbsX w)))
def execOraIndX (z : Byte) (s : State) : Result := .next (s.opOra (s.read (s.eaIndX z)))
def execOraZp (z : Byte) (s : State) : Result := .next (s.opOra (s.read (eaZp z)))
def execOraImm (i : Byte) (s : State) : Result := .next (s.opOra i)
def execOraAbs (w : Word) (s : State) : Result := .next (s.opOra (s.read (eaAbs w)))
def execOraIndY (z : Byte) (s : State) : Result := .next (s.opOra (s.read (s.eaIndY z)))
def execOraZpX (z : Byte) (s : State) : Result := .next (s.opOra (s.read (s.eaZpX z)))
def execOraAbsY (w : Word) (s : State) : Result := .next (s.opOra (s.read (s.eaAbsY w)))
def execOraAbsX (w : Word) (s : State) : Result := .next (s.opOra (s.read (s.eaAbsX w)))
def execEorIndX (z : Byte) (s : State) : Result := .next (s.opEor (s.read (s.eaIndX z)))
def execEorZp (z : Byte) (s : State) : Result := .next (s.opEor (s.read (eaZp z)))
def execEorImm (i : Byte) (s : State) : Result := .next (s.opEor i)
def execEorAbs (w : Word) (s : State) : Result := .next (s.opEor (s.read (eaAbs w)))
def execEorIndY (z : Byte) (s : State) : Result := .next (s.opEor (s.read (s.eaIndY z)))
def execEorZpX (z : Byte) (s : State) : Result := .next (s.opEor (s.read (s.eaZpX z)))
def execEorAbsY (w : Word) (s : State) : Result := .next (s.opEor (s.read (s.eaAbsY w)))
def execEorAbsX (w : Word) (s : State) : Result := .next (s.opEor (s.read (s.eaAbsX w)))
def execBitZp (z : Byte) (s : State) : Result := .next (s.opBit (s.read (eaZp z)))
def execBitAbs (w : Word) (s : State) : Result := .next (s.opBit (s.read (eaAbs w)))

end Sys2Proof.Machine
end

