-- ==== Sys2Proof/Machine/ShiftRotate.lean ====
section
/-! DEFINITION. Meanings of the shift and rotate instructions (43_shift_rotate.md), on A or on memory. One operation per mnemonic, then one meaning per opcode row, which resolves its mode's operand (R120) and runs the operation. -/

namespace Sys2Proof.Machine

/-- The results of the four operations on a byte and the carry in (R170 to R173). -/
def aslResult (m : Byte) : Byte := m <<< 1
def lsrResult (m : Byte) : Byte := m >>> 1
def rolResult (m : Byte) (c : Bool) : Byte := (m <<< 1) ||| (BitVec.ofBool c).setWidth 8
def rorResult (m : Byte) (c : Bool) : Byte := (m >>> 1) ||| ((BitVec.ofBool c).setWidth 8 <<< 7)

/-- Write a shifted byte back and set C from the bit shifted out, N and Z from the result. -/
def State.writeShifted (s : State) (op : Operand) (r : Byte) (shiftedOut : Bool) : State :=
  (s.writeOperand op r).setP ((s.p.setShiftedOut shiftedOut).setNZ r)

/-- ASL (R170). -/
def State.opAsl (s : State) (op : Operand) : State :=
  s.writeShifted op (aslResult (s.readOperand op)) ((s.readOperand op).getLsbD 7)

/-- LSR (R171). -/
def State.opLsr (s : State) (op : Operand) : State :=
  s.writeShifted op (lsrResult (s.readOperand op)) ((s.readOperand op).getLsbD 0)

/-- ROL (R172): the old carry enters bit 0. -/
def State.opRol (s : State) (op : Operand) : State :=
  s.writeShifted op (rolResult (s.readOperand op) s.p.c) ((s.readOperand op).getLsbD 7)

/-- ROR (R173): the old carry enters bit 7. -/
def State.opRor (s : State) (op : Operand) : State :=
  s.writeShifted op (rorResult (s.readOperand op) s.p.c) ((s.readOperand op).getLsbD 0)

def execAslZp (z : Byte) (s : State) : Result := .next (s.opAsl (.addr (eaZp z)))
def execAslAcc (s : State) : Result := .next (s.opAsl .acc)
def execAslAbs (w : Word) (s : State) : Result := .next (s.opAsl (.addr (eaAbs w)))
def execAslZpX (z : Byte) (s : State) : Result := .next (s.opAsl (.addr (s.eaZpX z)))
def execAslAbsX (w : Word) (s : State) : Result := .next (s.opAsl (.addr (s.eaAbsX w)))
def execLsrZp (z : Byte) (s : State) : Result := .next (s.opLsr (.addr (eaZp z)))
def execLsrAcc (s : State) : Result := .next (s.opLsr .acc)
def execLsrAbs (w : Word) (s : State) : Result := .next (s.opLsr (.addr (eaAbs w)))
def execLsrZpX (z : Byte) (s : State) : Result := .next (s.opLsr (.addr (s.eaZpX z)))
def execLsrAbsX (w : Word) (s : State) : Result := .next (s.opLsr (.addr (s.eaAbsX w)))
def execRolZp (z : Byte) (s : State) : Result := .next (s.opRol (.addr (eaZp z)))
def execRolAcc (s : State) : Result := .next (s.opRol .acc)
def execRolAbs (w : Word) (s : State) : Result := .next (s.opRol (.addr (eaAbs w)))
def execRolZpX (z : Byte) (s : State) : Result := .next (s.opRol (.addr (s.eaZpX z)))
def execRolAbsX (w : Word) (s : State) : Result := .next (s.opRol (.addr (s.eaAbsX w)))
def execRorZp (z : Byte) (s : State) : Result := .next (s.opRor (.addr (eaZp z)))
def execRorAcc (s : State) : Result := .next (s.opRor .acc)
def execRorAbs (w : Word) (s : State) : Result := .next (s.opRor (.addr (eaAbs w)))
def execRorZpX (z : Byte) (s : State) : Result := .next (s.opRor (.addr (s.eaZpX z)))
def execRorAbsX (w : Word) (s : State) : Result := .next (s.opRor (.addr (s.eaAbsX w)))

end Sys2Proof.Machine
end

