-- ==== Sys2Proof/Machine/Composites.lean ====
section
/-! DEFINITION. Meanings of the undocumented composites (49_undocumented.md R260 to R275): two operations in one instruction, with the flags the second leaves after the first. One operation per mnemonic, then one meaning per opcode row, which resolves its mode's operand (R120) and runs the operation. -/

namespace Sys2Proof.Machine

/-- SLO (R261): ASL, then ORA with the byte written. -/
def State.opSlo (s : State) (ea : Word) : State := (s.opAsl (.addr ea)).opOra (aslResult (s.read ea))

/-- RLA (R262): ROL, then AND. -/
def State.opRla (s : State) (ea : Word) : State := (s.opRol (.addr ea)).opAnd (rolResult (s.read ea) s.p.c)

/-- SRE (R263): LSR, then EOR. -/
def State.opSre (s : State) (ea : Word) : State := (s.opLsr (.addr ea)).opEor (lsrResult (s.read ea))

/-- RRA (R264): ROR, then ADC with the carry the rotate produced. -/
def State.opRra (s : State) (ea : Word) : State := (s.opRor (.addr ea)).opAdc (rorResult (s.read ea) s.p.c)

/-- DCP (R265): DEC, then CMP. -/
def State.opDcp (s : State) (ea : Word) : State := (s.opDec (.addr ea)).opCmp (s.read ea - 1)

/-- ISC (R266): INC, then SBC. -/
def State.opIsc (s : State) (ea : Word) : State := (s.opInc (.addr ea)).opSbc (s.read ea + 1)

/-- LAX (R267): A and X take the byte. -/
def State.opLax (s : State) (m : Byte) : State := ((s.setA m).setX m).setNZ m

/-- SAX (R268): A & X is stored; no flag. -/
def State.opSax (s : State) (ea : Word) : State := s.store ea (s.a &&& s.x)

/-- ANC (R269): AND, then C is bit 7 of the result. -/
def State.opAnc (s : State) (m : Byte) : State :=
  let t := s.opAnd m
  t.setP { t.p with c := t.a.getLsbD 7 }

/-- ALR (R270): AND, then LSR A. -/
def State.opAlr (s : State) (m : Byte) : State := (s.opAnd m).opLsr .acc

/-- ARR (R271): AND, then rotate right through C, with flags of its own. -/
def State.opArr (s : State) (m : Byte) : State :=
  let r := rorResult (s.a &&& m) s.p.c
  (s.setA r).setP (s.p.arr r)

/-- ANE (R272, D16): (A | ANE_CONST) & X & m. -/
def State.opAne (s : State) (m : Byte) : State :=
  let r := (s.a ||| s.config.aneConst) &&& s.x &&& m
  (s.setA r).setNZ r

/-- LXA (R273, D16): (A | LXA_CONST) & m into A and X. -/
def State.opLxa (s : State) (m : Byte) : State := s.opLax ((s.a ||| s.config.lxaConst) &&& m)

/-- SBX (R274): X = (A & X) - m, the incoming carry unused; C, N and Z as a compare of A & X with m. -/
def State.opSbx (s : State) (m : Byte) : State :=
  let t := s.a &&& s.x
  (s.setX (t - m)).setP (({ s.p with c := decide (m.toNat ≤ t.toNat) } : Flags).setNZ (t - m))

/-- LAS (R275): m & S into A, X and S. -/
def State.opLas (s : State) (m : Byte) : State := ((s.opLax (m &&& s.sp)).setSp (m &&& s.sp))

def execSloIndX (z : Byte) (s : State) : Result := .next (s.opSlo (s.eaIndX z))
def execSloZp (z : Byte) (s : State) : Result := .next (s.opSlo (eaZp z))
def execSloAbs (w : Word) (s : State) : Result := .next (s.opSlo (eaAbs w))
def execSloIndY (z : Byte) (s : State) : Result := .next (s.opSlo (s.eaIndY z))
def execSloZpX (z : Byte) (s : State) : Result := .next (s.opSlo (s.eaZpX z))
def execSloAbsY (w : Word) (s : State) : Result := .next (s.opSlo (s.eaAbsY w))
def execSloAbsX (w : Word) (s : State) : Result := .next (s.opSlo (s.eaAbsX w))
def execRlaIndX (z : Byte) (s : State) : Result := .next (s.opRla (s.eaIndX z))
def execRlaZp (z : Byte) (s : State) : Result := .next (s.opRla (eaZp z))
def execRlaAbs (w : Word) (s : State) : Result := .next (s.opRla (eaAbs w))
def execRlaIndY (z : Byte) (s : State) : Result := .next (s.opRla (s.eaIndY z))
def execRlaZpX (z : Byte) (s : State) : Result := .next (s.opRla (s.eaZpX z))
def execRlaAbsY (w : Word) (s : State) : Result := .next (s.opRla (s.eaAbsY w))
def execRlaAbsX (w : Word) (s : State) : Result := .next (s.opRla (s.eaAbsX w))
def execSreIndX (z : Byte) (s : State) : Result := .next (s.opSre (s.eaIndX z))
def execSreZp (z : Byte) (s : State) : Result := .next (s.opSre (eaZp z))
def execSreAbs (w : Word) (s : State) : Result := .next (s.opSre (eaAbs w))
def execSreIndY (z : Byte) (s : State) : Result := .next (s.opSre (s.eaIndY z))
def execSreZpX (z : Byte) (s : State) : Result := .next (s.opSre (s.eaZpX z))
def execSreAbsY (w : Word) (s : State) : Result := .next (s.opSre (s.eaAbsY w))
def execSreAbsX (w : Word) (s : State) : Result := .next (s.opSre (s.eaAbsX w))
def execRraIndX (z : Byte) (s : State) : Result := .next (s.opRra (s.eaIndX z))
def execRraZp (z : Byte) (s : State) : Result := .next (s.opRra (eaZp z))
def execRraAbs (w : Word) (s : State) : Result := .next (s.opRra (eaAbs w))
def execRraIndY (z : Byte) (s : State) : Result := .next (s.opRra (s.eaIndY z))
def execRraZpX (z : Byte) (s : State) : Result := .next (s.opRra (s.eaZpX z))
def execRraAbsY (w : Word) (s : State) : Result := .next (s.opRra (s.eaAbsY w))
def execRraAbsX (w : Word) (s : State) : Result := .next (s.opRra (s.eaAbsX w))
def execDcpIndX (z : Byte) (s : State) : Result := .next (s.opDcp (s.eaIndX z))
def execDcpZp (z : Byte) (s : State) : Result := .next (s.opDcp (eaZp z))
def execDcpAbs (w : Word) (s : State) : Result := .next (s.opDcp (eaAbs w))
def execDcpIndY (z : Byte) (s : State) : Result := .next (s.opDcp (s.eaIndY z))
def execDcpZpX (z : Byte) (s : State) : Result := .next (s.opDcp (s.eaZpX z))
def execDcpAbsY (w : Word) (s : State) : Result := .next (s.opDcp (s.eaAbsY w))
def execDcpAbsX (w : Word) (s : State) : Result := .next (s.opDcp (s.eaAbsX w))
def execIscIndX (z : Byte) (s : State) : Result := .next (s.opIsc (s.eaIndX z))
def execIscZp (z : Byte) (s : State) : Result := .next (s.opIsc (eaZp z))
def execIscAbs (w : Word) (s : State) : Result := .next (s.opIsc (eaAbs w))
def execIscIndY (z : Byte) (s : State) : Result := .next (s.opIsc (s.eaIndY z))
def execIscZpX (z : Byte) (s : State) : Result := .next (s.opIsc (s.eaZpX z))
def execIscAbsY (w : Word) (s : State) : Result := .next (s.opIsc (s.eaAbsY w))
def execIscAbsX (w : Word) (s : State) : Result := .next (s.opIsc (s.eaAbsX w))
def execLaxIndX (z : Byte) (s : State) : Result := .next (s.opLax (s.read (s.eaIndX z)))
def execLaxZp (z : Byte) (s : State) : Result := .next (s.opLax (s.read (eaZp z)))
def execLaxAbs (w : Word) (s : State) : Result := .next (s.opLax (s.read (eaAbs w)))
def execLaxIndY (z : Byte) (s : State) : Result := .next (s.opLax (s.read (s.eaIndY z)))
def execLaxZpY (z : Byte) (s : State) : Result := .next (s.opLax (s.read (s.eaZpY z)))
def execLaxAbsY (w : Word) (s : State) : Result := .next (s.opLax (s.read (s.eaAbsY w)))
def execSaxIndX (z : Byte) (s : State) : Result := .next (s.opSax (s.eaIndX z))
def execSaxZp (z : Byte) (s : State) : Result := .next (s.opSax (eaZp z))
def execSaxAbs (w : Word) (s : State) : Result := .next (s.opSax (eaAbs w))
def execSaxZpY (z : Byte) (s : State) : Result := .next (s.opSax (s.eaZpY z))
def execAncImm0B (i : Byte) (s : State) : Result := .next (s.opAnc i)
def execAncImm2B (i : Byte) (s : State) : Result := .next (s.opAnc i)
def execAlrImm (i : Byte) (s : State) : Result := .next (s.opAlr i)
def execArrImm (i : Byte) (s : State) : Result := .next (s.opArr i)
def execAneImm (i : Byte) (s : State) : Result := .next (s.opAne i)
def execLxaImm (i : Byte) (s : State) : Result := .next (s.opLxa i)
def execSbxImm (i : Byte) (s : State) : Result := .next (s.opSbx i)
def execLasAbsY (w : Word) (s : State) : Result := .next (s.opLas (s.read (s.eaAbsY w)))

end Sys2Proof.Machine
end

