-- ==== Sys2Proof/Machine/ControlFlow.lean ====
section
/-! DEFINITION. Meanings of the control-transfer instructions (48_control_flow.md). PC is the address of the byte after the instruction when a meaning begins. One operation per mnemonic, then one meaning per opcode row, which resolves its mode's operand (R120) and runs the operation. -/

namespace Sys2Proof.Machine

/-- JMP (R240). -/
def State.opJmp (s : State) (target : Word) : State := s.setPc target

/-- JSR (R241): pushes PC - 1, high byte first; the target was read before the pushes (R76, D19). -/
def State.opJsr (s : State) (target : Word) : State := (s.pushWord (s.pc - 1)).setPc target

/-- RTS (R242): pops a word and adds 1. -/
def State.opRts (s : State) : State :=
  let (target, s1) := s.popWord
  s1.setPc (target + 1)

/-- The common branch rule (R243). -/
def State.branch (s : State) (cond : Bool) (o : Byte) : State :=
  s.setPc (if cond then s.pc + sext16 o else s.pc)

/-- The conditions of the eight branches (R244 to R251). -/
def State.opBcc (s : State) (o : Byte) : State := s.branch (!s.p.c) o
def State.opBcs (s : State) (o : Byte) : State := s.branch s.p.c o
def State.opBeq (s : State) (o : Byte) : State := s.branch s.p.z o
def State.opBmi (s : State) (o : Byte) : State := s.branch s.p.n o
def State.opBne (s : State) (o : Byte) : State := s.branch (!s.p.z) o
def State.opBpl (s : State) (o : Byte) : State := s.branch (!s.p.n) o
def State.opBvc (s : State) (o : Byte) : State := s.branch (!s.p.v) o
def State.opBvs (s : State) (o : Byte) : State := s.branch s.p.v o

/-- BRK (R252): skips one more byte, then the interrupt sequence with bit 4 set. -/
def State.opBrk (s : State) : State := (s.setPc (s.pc + 1)).enterInterrupt true irqVector

/-- RTI (R253). -/
def State.opRti (s : State) : State := s.returnFromInterrupt

def execJmpAbs (w : Word) (s : State) : Result := .next (s.opJmp (eaAbs w))
def execJmpInd (w : Word) (s : State) : Result := .next (s.opJmp (s.eaInd w))
def execJsrAbs (w : Word) (s : State) : Result := .next (s.opJsr (eaAbs w))
def execRts (s : State) : Result := .next (s.opRts)
def execBcc (o : Byte) (s : State) : Result := .next (s.opBcc o)
def execBcs (o : Byte) (s : State) : Result := .next (s.opBcs o)
def execBeq (o : Byte) (s : State) : Result := .next (s.opBeq o)
def execBmi (o : Byte) (s : State) : Result := .next (s.opBmi o)
def execBne (o : Byte) (s : State) : Result := .next (s.opBne o)
def execBpl (o : Byte) (s : State) : Result := .next (s.opBpl o)
def execBvc (o : Byte) (s : State) : Result := .next (s.opBvc o)
def execBvs (o : Byte) (s : State) : Result := .next (s.opBvs o)
def execBrk (s : State) : Result := .next (s.opBrk)
def execRti (s : State) : Result := .next (s.opRti)

end Sys2Proof.Machine
end

