-- ==== Sys2Proof/Machine/HighStores.lean ====
section
/-! DEFINITION. Meanings of the SH* group (49_undocumented.md R276 to R280) and JAM (R281). One operation per mnemonic, then one meaning per opcode row, which resolves its mode's operand (R120) and runs the operation. -/

namespace Sys2Proof.Machine

/-- The value the SH* group stores (R276): a register value and the high byte of the unindexed base plus one. -/
def shValue (rv : Byte) (base : Word) : Byte := rv &&& (hi base + 1)

/-- The address the SH* group stores to (R276): where indexing crossed a page, the value replaces the high byte. -/
def shTarget (rv : Byte) (base ea : Word) : Word :=
  if hi ea = hi base then ea else joinWord (shValue rv base) (lo ea)

/-- The common rule of the SH* group (R276, D17). -/
def State.storeHigh (s : State) (rv : Byte) (base ea : Word) : State :=
  s.store (shTarget rv base ea) (shValue rv base)

/-- SHA (R277), SHY (R278), SHX (R279). -/
def State.opSha (s : State) (base ea : Word) : State := s.storeHigh (s.a &&& s.x) base ea
def State.opShy (s : State) (base ea : Word) : State := s.storeHigh s.y base ea
def State.opShx (s : State) (base ea : Word) : State := s.storeHigh s.x base ea

/-- TAS (R280): S = A & X, then the common rule with S. -/
def State.opTas (s : State) (base ea : Word) : State := (s.setSp (s.a &&& s.x)).storeHigh (s.a &&& s.x) base ea

/-- JAM (R281, D15): `Halt()`, nothing else. -/
def State.opJam (s : State) : State := s.setHalted true

def execShaIndY (z : Byte) (s : State) : Result := .next (s.opSha (s.baseIndY z) (s.eaIndY z))
def execShaAbsY (w : Word) (s : State) : Result := .next (s.opSha (eaAbs w) (s.eaAbsY w))
def execShyAbsX (w : Word) (s : State) : Result := .next (s.opShy (eaAbs w) (s.eaAbsX w))
def execShxAbsY (w : Word) (s : State) : Result := .next (s.opShx (eaAbs w) (s.eaAbsY w))
def execTasAbsY (w : Word) (s : State) : Result := .next (s.opTas (eaAbs w) (s.eaAbsY w))
def execJam02 (s : State) : Result := .next (s.opJam)
def execJam12 (s : State) : Result := .next (s.opJam)
def execJam22 (s : State) : Result := .next (s.opJam)
def execJam32 (s : State) : Result := .next (s.opJam)
def execJam42 (s : State) : Result := .next (s.opJam)
def execJam52 (s : State) : Result := .next (s.opJam)
def execJam62 (s : State) : Result := .next (s.opJam)
def execJam72 (s : State) : Result := .next (s.opJam)
def execJam92 (s : State) : Result := .next (s.opJam)
def execJamB2 (s : State) : Result := .next (s.opJam)
def execJamD2 (s : State) : Result := .next (s.opJam)
def execJamF2 (s : State) : Result := .next (s.opJam)

end Sys2Proof.Machine
end

