-- ==== Sys2Proof/Machine/LoadStore.lean ====
section
/-! DEFINITION. Meanings of the loads, stores and register transfers (46_load_store_transfer.md). One operation per mnemonic, then one meaning per opcode row, which resolves its mode's operand (R120) and runs the operation. -/

namespace Sys2Proof.Machine

/-- LDA (R200), LDX (R201), LDY (R202). -/
def State.opLda (s : State) (m : Byte) : State := (s.setA m).setNZ m
def State.opLdx (s : State) (m : Byte) : State := (s.setX m).setNZ m
def State.opLdy (s : State) (m : Byte) : State := (s.setY m).setNZ m

/-- STA (R203), STX (R204), STY (R205): no flag. -/
def State.opSta (s : State) (ea : Word) : State := s.store ea s.a
def State.opStx (s : State) (ea : Word) : State := s.store ea s.x
def State.opSty (s : State) (ea : Word) : State := s.store ea s.y

/-- TAX (R206), TAY (R207), TXA (R208), TYA (R209), TSX (R210), and TXS (R211), which sets no flag. -/
def State.opTax (s : State) : State := (s.setX s.a).setNZ s.a
def State.opTay (s : State) : State := (s.setY s.a).setNZ s.a
def State.opTxa (s : State) : State := (s.setA s.x).setNZ s.x
def State.opTya (s : State) : State := (s.setA s.y).setNZ s.y
def State.opTsx (s : State) : State := (s.setX s.sp).setNZ s.sp
def State.opTxs (s : State) : State := s.setSp s.x

def execLdaIndX (z : Byte) (s : State) : Result := .next (s.opLda (s.read (s.eaIndX z)))
def execLdaZp (z : Byte) (s : State) : Result := .next (s.opLda (s.read (eaZp z)))
def execLdaImm (i : Byte) (s : State) : Result := .next (s.opLda i)
def execLdaAbs (w : Word) (s : State) : Result := .next (s.opLda (s.read (eaAbs w)))
def execLdaIndY (z : Byte) (s : State) : Result := .next (s.opLda (s.read (s.eaIndY z)))
def execLdaZpX (z : Byte) (s : State) : Result := .next (s.opLda (s.read (s.eaZpX z)))
def execLdaAbsY (w : Word) (s : State) : Result := .next (s.opLda (s.read (s.eaAbsY w)))
def execLdaAbsX (w : Word) (s : State) : Result := .next (s.opLda (s.read (s.eaAbsX w)))
def execLdxImm (i : Byte) (s : State) : Result := .next (s.opLdx i)
def execLdxZp (z : Byte) (s : State) : Result := .next (s.opLdx (s.read (eaZp z)))
def execLdxAbs (w : Word) (s : State) : Result := .next (s.opLdx (s.read (eaAbs w)))
def execLdxZpY (z : Byte) (s : State) : Result := .next (s.opLdx (s.read (s.eaZpY z)))
def execLdxAbsY (w : Word) (s : State) : Result := .next (s.opLdx (s.read (s.eaAbsY w)))
def execLdyImm (i : Byte) (s : State) : Result := .next (s.opLdy i)
def execLdyZp (z : Byte) (s : State) : Result := .next (s.opLdy (s.read (eaZp z)))
def execLdyAbs (w : Word) (s : State) : Result := .next (s.opLdy (s.read (eaAbs w)))
def execLdyZpX (z : Byte) (s : State) : Result := .next (s.opLdy (s.read (s.eaZpX z)))
def execLdyAbsX (w : Word) (s : State) : Result := .next (s.opLdy (s.read (s.eaAbsX w)))
def execStaIndX (z : Byte) (s : State) : Result := .next (s.opSta (s.eaIndX z))
def execStaZp (z : Byte) (s : State) : Result := .next (s.opSta (eaZp z))
def execStaAbs (w : Word) (s : State) : Result := .next (s.opSta (eaAbs w))
def execStaIndY (z : Byte) (s : State) : Result := .next (s.opSta (s.eaIndY z))
def execStaZpX (z : Byte) (s : State) : Result := .next (s.opSta (s.eaZpX z))
def execStaAbsY (w : Word) (s : State) : Result := .next (s.opSta (s.eaAbsY w))
def execStaAbsX (w : Word) (s : State) : Result := .next (s.opSta (s.eaAbsX w))
def execStxZp (z : Byte) (s : State) : Result := .next (s.opStx (eaZp z))
def execStxAbs (w : Word) (s : State) : Result := .next (s.opStx (eaAbs w))
def execStxZpY (z : Byte) (s : State) : Result := .next (s.opStx (s.eaZpY z))
def execStyZp (z : Byte) (s : State) : Result := .next (s.opSty (eaZp z))
def execStyAbs (w : Word) (s : State) : Result := .next (s.opSty (eaAbs w))
def execStyZpX (z : Byte) (s : State) : Result := .next (s.opSty (s.eaZpX z))
def execTax (s : State) : Result := .next (s.opTax)
def execTay (s : State) : Result := .next (s.opTay)
def execTxa (s : State) : Result := .next (s.opTxa)
def execTya (s : State) : Result := .next (s.opTya)
def execTsx (s : State) : Result := .next (s.opTsx)
def execTxs (s : State) : Result := .next (s.opTxs)

end Sys2Proof.Machine
end

