-- ==== Sys2Proof/Machine/StackFlags.lean ====
section
/-! DEFINITION. Meanings of the stack, flag and no-operation instructions (47_stack_flags_nop.md) and the undocumented NOPs (R282). One operation per mnemonic, then one meaning per opcode row, which resolves its mode's operand (R120) and runs the operation. -/

namespace Sys2Proof.Machine

/-- PHA (R220). -/
def State.opPha (s : State) : State := s.push s.a

/-- PHP (R221): the pushed byte has bits 5 and 4 set. -/
def State.opPhp (s : State) : State := s.push (s.p.pack true)

/-- PLA (R222). -/
def State.opPla (s : State) : State :=
  let (v, s1) := s.pop
  (s1.setA v).setNZ v

/-- PLP (R223). -/
def State.opPlp (s : State) : State :=
  let (v, s1) := s.pop
  s1.setP (Flags.unpack v)

/-- CLC, SEC, CLI, SEI, CLV, CLD, SED (R224 to R230). -/
def State.opClc (s : State) : State := s.setP { s.p with c := false }
def State.opSec (s : State) : State := s.setP { s.p with c := true }
def State.opCli (s : State) : State := s.setP { s.p with i := false }
def State.opSei (s : State) : State := s.setP { s.p with i := true }
def State.opClv (s : State) : State := s.setP { s.p with v := false }
def State.opCld (s : State) : State := s.setP { s.p with d := false }
def State.opSed (s : State) : State := s.setP { s.p with d := true }

/-- NOP (R231). -/
def State.opNop (s : State) : State := s

/-- The operand read of an undocumented NOP (R282): the byte is discarded, and a read has no effect (R61, D22). -/
def State.discard (s : State) (_ : Byte) : State := s

def execPha (s : State) : Result := .next (s.opPha)
def execPhp (s : State) : Result := .next (s.opPhp)
def execPla (s : State) : Result := .next (s.opPla)
def execPlp (s : State) : Result := .next (s.opPlp)
def execClc (s : State) : Result := .next (s.opClc)
def execSec (s : State) : Result := .next (s.opSec)
def execCli (s : State) : Result := .next (s.opCli)
def execSei (s : State) : Result := .next (s.opSei)
def execClv (s : State) : Result := .next (s.opClv)
def execCld (s : State) : Result := .next (s.opCld)
def execSed (s : State) : Result := .next (s.opSed)
def execNopZp04 (z : Byte) (s : State) : Result := .next (s.discard (s.read (eaZp z)))
def execNopAbs (w : Word) (s : State) : Result := .next (s.discard (s.read (eaAbs w)))
def execNopZpX14 (z : Byte) (s : State) : Result := .next (s.discard (s.read (s.eaZpX z)))
def execNop1A (s : State) : Result := .next (s.opNop)
def execNopAbsX1C (w : Word) (s : State) : Result := .next (s.discard (s.read (s.eaAbsX w)))
def execNopZpX34 (z : Byte) (s : State) : Result := .next (s.discard (s.read (s.eaZpX z)))
def execNop3A (s : State) : Result := .next (s.opNop)
def execNopAbsX3C (w : Word) (s : State) : Result := .next (s.discard (s.read (s.eaAbsX w)))
def execNopZp44 (z : Byte) (s : State) : Result := .next (s.discard (s.read (eaZp z)))
def execNopZpX54 (z : Byte) (s : State) : Result := .next (s.discard (s.read (s.eaZpX z)))
def execNop5A (s : State) : Result := .next (s.opNop)
def execNopAbsX5C (w : Word) (s : State) : Result := .next (s.discard (s.read (s.eaAbsX w)))
def execNopZp64 (z : Byte) (s : State) : Result := .next (s.discard (s.read (eaZp z)))
def execNopZpX74 (z : Byte) (s : State) : Result := .next (s.discard (s.read (s.eaZpX z)))
def execNop7A (s : State) : Result := .next (s.opNop)
def execNopAbsX7C (w : Word) (s : State) : Result := .next (s.discard (s.read (s.eaAbsX w)))
def execNopImm80 (i : Byte) (s : State) : Result := .next (s.discard i)
def execNopImm82 (i : Byte) (s : State) : Result := .next (s.discard i)
def execNopImm89 (i : Byte) (s : State) : Result := .next (s.discard i)
def execNopImmC2 (i : Byte) (s : State) : Result := .next (s.discard i)
def execNopZpXD4 (z : Byte) (s : State) : Result := .next (s.discard (s.read (s.eaZpX z)))
def execNopDA (s : State) : Result := .next (s.opNop)
def execNopAbsXDC (w : Word) (s : State) : Result := .next (s.discard (s.read (s.eaAbsX w)))
def execNopImmE2 (i : Byte) (s : State) : Result := .next (s.discard i)
def execNop (s : State) : Result := .next (s.opNop)
def execNopZpXF4 (z : Byte) (s : State) : Result := .next (s.discard (s.read (s.eaZpX z)))
def execNopFA (s : State) : Result := .next (s.opNop)
def execNopAbsXFC (w : Word) (s : State) : Result := .next (s.discard (s.read (s.eaAbsX w)))

end Sys2Proof.Machine
end

