-- ==== Sys2Proof/Machine/Timing.lean ====
section
/-! DEFINITION. The base cycle count of every opcode (R93, R345), by the class of its mnemonic and its mode; nothing is added for a page crossing or a taken branch (R138, D8). -/

namespace Sys2Proof.Machine

/-- Instructions that read their operand (R345, first row), and the implied ones that cost 2 like them. -/
def readCycles : Mode → Nat
  | .imp | .acc | .imm | .rel => 2
  | .zp => 3
  | .zpx | .zpy | .abs | .abx | .aby => 4
  | .izx => 6
  | .izy => 5
  | .ind => 5

/-- Stores, the SH* group among them: an indexed store always costs the page-cross cycle (R345). -/
def storeCycles : Mode → Nat
  | .abx | .aby => 5
  | .izy => 6
  | m => readCycles m

/-- Read-modify-write instructions, documented and undocumented (R345). -/
def modifyCycles : Mode → Nat
  | .zp => 5
  | .zpx | .abs => 6
  | .abx | .aby => 7
  | .izx | .izy => 8
  | m => readCycles m

/-- `e.base_cycles` (R93, R345); JAM's is the parameter JAM_CYCLES (D15). -/
def baseCycles (c : Config) (i : Instr) : Nat :=
  match i.mnemonic with
  | .BRK => 7
  | .RTI | .RTS | .JSR => 6
  | .JMP => if i.mode = .ind then 5 else 3
  | .PHA | .PHP => 3
  | .PLA | .PLP => 4
  | .JAM => c.jamCycles
  | .STA | .STX | .STY | .SAX | .SHA | .SHX | .SHY | .TAS => storeCycles i.mode
  | .ASL | .LSR | .ROL | .ROR | .INC | .DEC | .SLO | .RLA | .SRE | .RRA | .DCP | .ISC => modifyCycles i.mode
  | .ADC | .ALR | .ANC | .AND | .ANE | .ARR | .BCC | .BCS | .BEQ | .BIT | .BMI | .BNE | .BPL | .BVC | .BVS
  | .CLC | .CLD | .CLI | .CLV | .CMP | .CPX | .CPY | .DEX | .DEY | .EOR | .INX | .INY | .LAS | .LAX | .LDA
  | .LDX | .LDY | .LXA | .NOP | .ORA | .SBC | .SBX | .SEC | .SED | .SEI | .TAX | .TAY | .TSX | .TXA | .TXS
  | .TYA => readCycles i.mode

/-- What an interrupt entry returns (R304, R305, D29). -/
def interruptCycles : Nat := 7

end Sys2Proof.Machine
end

