-- ==== Sys2Proof/Machine/Clock.lean ====
section
/-! DEFINITION. `clock()` (R94): the halted check, the NMI and IRQ polls, then fetch, decode, resolve, execute and report. -/

namespace Sys2Proof.Machine

/-- Report the value `clock()` returns (R94 step 5). -/
def State.report (s : State) (cycles : Nat) : State := s.setClockResult (some cycles)

/-- The three bytes at PC, each address mod 2^16 (R34, R90). An instruction takes as many as its format has; the others are not part of it, and reading them changes nothing (R61, log entry 6). -/
def State.fetchBytes (s : State) : List Byte := [s.read s.pc, s.read (s.pc + 1), s.read (s.pc + 2)]

/-- The instruction at PC (R94 steps 1 to 3, R95). -/
def State.fetched (s : State) : Instr := decodeOpcode (s.read s.pc) (s.read (s.pc + 1)) (s.read (s.pc + 2))

/-- PC past the opcode and the operand bytes of an instruction (R34, R94). -/
def State.advance (s : State) (i : Instr) : State := s.setPc (s.pc + BitVec.ofNat 16 i.length)

/-- Run one instruction: PC past it, its meaning, its base cycles reported. -/
def runInstr (i : Instr) (s : State) : Result :=
  mapNext (fun t => t.report (baseCycles s.config i)) (exec i (s.advance i))

/-- `clock()` (R94, R308): halted first, then a pending NMI, then an asserted and unmasked IRQ, then the fetch. -/
def clock (s : State) : Result :=
  if s.halted then .next (s.report s.config.jamCycles)
  else if s.nmiPending then .next (((s.setNmiPending false).interruptEntry nmiVector).report interruptCycles)
  else if s.irq && !s.p.i then .next ((s.interruptEntry irqVector).report interruptCycles)
  else runInstr s.fetched s

/-- The bytes of a table word of `nbits` bits stored at PC, and whatever keeps the next step from fetching taken away: the halt, a pending NMI, an IRQ that would be taken. -/
def State.placeWord (s : State) (nbits w : Nat) : State :=
  let v := w % 2 ^ nbits
  let t := ((s.store s.pc (BitVec.ofNat 8 v)).store (s.pc + 1) (BitVec.ofNat 8 (v >>> 8))).store (s.pc + 2)
    (BitVec.ofNat 8 (v >>> 16))
  ((t.setHalted false).setNmiPending false).setIrq (s.irq && s.p.i)

end Sys2Proof.Machine
end

