-- ==== Sys2Proof/Machine/Step.lean ====
section
/-! DEFINITION. The step of the machine is one `clock()` call (R46, R94), and how an instruction is placed for it. -/

namespace Sys2Proof.Machine

/-- One step: one `clock()` (R94). -/
def step (s : State) : Host.Outcome State Fault Refusal := clock s

/-- `s` with an instruction stored at PC, where the next step fetches (log entry 2). -/
def State.withFetchWord (s : State) (nbits w : Nat) : State := s.placeWord nbits w

end Sys2Proof.Machine
end

