-- ==== Sys2Proof/Machine/Embedder.lean ====
section
/-! DEFINITION. What the embedder can do between `clock()` calls (R46 to R48, R302): `reset()`, the `nmi()` event, the `irq` level, its own bus accesses, and inspection. -/

namespace Sys2Proof.Machine

/-- PC after `reset()` (R52). -/
def resetPc (c : Config) (m : Memory) : Word :=
  match c.resetPcMode with
  | .vector => m.readWord resetVector
  | .zero => 0x0000#16

/-- `reset()` (R330): every register and latch of the core; no memory is written (R54), and the bus, the input level and the parameters are not the core's to change (log entry 5). -/
def State.resetCall (s : State) : State where
  a := 0x00#8
  x := 0x00#8
  y := 0x00#8
  sp := 0xFD#8
  pc := resetPc s.config s.mem
  p := { c := false, z := false, i := true, d := false, v := false, n := false }
  halted := false
  nmiPending := false
  irq := s.irq
  mem := s.mem
  config := s.config
  clockResult := none

/-- `nmi()` (R302): calls before the NMI is taken collapse into one. -/
def State.nmi (s : State) : State := s.setNmiPending true

/-- The embedder drives the `irq` level (R302). -/
def State.driveIrq (s : State) (level : Bool) : State := s.setIrq level

/-- A byte the embedder writes on its own bus (R47, R335). -/
def State.loadByte (s : State) (a : Word) (v : Byte) : State := s.store a v

/-- The outputs R48 names. -/
structure Inspection where
  a : Byte
  x : Byte
  y : Byte
  sp : Byte
  pc : Word
  /-- `PackP(0)`. -/
  p : Byte
  deriving DecidableEq, Repr

/-- Inspection (R48): reading it changes nothing. -/
def State.inspect (s : State) : Inspection :=
  { a := s.a, x := s.x, y := s.y, sp := s.sp, pc := s.pc, p := s.p.pack false }

end Sys2Proof.Machine
end

