-- ==== Sys2Proof/Safety.lean ====
section
/-! DEFINITION. The terms the statements use: what a row of the opcode table does, the machine's invariant, the tables of what each instruction may write (R30 to R34, R41), and runs of pushes and pops. -/

namespace Sys2Proof

namespace Machine

/-- One row of the opcode table at a state: the instruction's meaning completes in `t`, its bytes are `bytes`, and `clock()` reports `cycles` for it. -/
def RunsAs (s : State) (i : Instr) (bytes : List Byte) (cycles : Nat) (t : State) : Prop :=
  exec i s = .next t ∧ encode i = bytes ∧ baseCycles s.config i = cycles

/-- A run is safe while every step answers a next state. -/
def Progresses (s : State) : Prop := ∃ t, step s = .next t

/-- The machine's invariant: the bus contents are in canonical form. -/
def Invariant (s : State) : Prop := s.mem.wf = true

/-- Whether the next `clock()` fetches an instruction: not halted, no NMI pending, no IRQ that would be taken (R94, R308). -/
def State.fetches (s : State) : Bool := !s.halted && !s.nmiPending && !(s.irq && !s.p.i)

end Machine

open Machine

/-- The addresses an instruction stores to, from the state its meaning begins in. -/
def Instr.storedAddresses (i : Instr) (s : State) : List Word :=
  match i.mnemonic with
  | .STA | .STX | .STY | .SAX | .ASL | .LSR | .ROL | .ROR | .INC | .DEC | .SLO | .RLA | .SRE | .RRA | .DCP | .ISC =>
    (s.effectiveAddress i.mode i.operands).toList
  | .SHA | .TAS => highStore (s.a &&& s.x)
  | .SHX => highStore s.x
  | .SHY => highStore s.y
  | .PHA | .PHP => [stackAddress s.sp]
  | .JSR => [stackAddress s.sp, stackAddress (s.sp - 1)]
  | .BRK => [stackAddress s.sp, stackAddress (s.sp - 1), stackAddress (s.sp - 2)]
  | _ => []
where
  /-- The SH* group's address (R276). -/
  highStore (rv : Byte) : List Word :=
    match s.baseAddress i.mode i.operands, s.effectiveAddress i.mode i.operands with
    | some base, some ea => [shTarget rv base ea]
    | _, _ => []

/-- Whether an instruction may write A (R30). -/
def Instr.writesA (i : Instr) : Bool :=
  match i.mnemonic with
  | .LDA | .TXA | .TYA | .PLA | .ADC | .SBC | .AND | .ORA | .EOR | .SLO | .RLA | .SRE | .RRA | .ISC | .LAX | .ANC
  | .ALR | .ARR | .ANE | .LXA | .LAS => true
  | .ASL | .LSR | .ROL | .ROR => i.mode = .acc
  | _ => false

/-- Whether an instruction may write X (R31). -/
def Instr.writesX (i : Instr) : Bool :=
  match i.mnemonic with
  | .LDX | .TAX | .TSX | .INX | .DEX | .LAX | .LXA | .SBX | .LAS => true
  | _ => false

/-- Whether an instruction may write Y (R32). -/
def Instr.writesY (i : Instr) : Bool :=
  match i.mnemonic with
  | .LDY | .TAY | .INY | .DEY => true
  | _ => false

/-- Whether an instruction may write S (R33): pushes, pops, TXS, LAS, TAS. -/
def Instr.writesSp (i : Instr) : Bool :=
  match i.mnemonic with
  | .PHA | .PHP | .PLA | .PLP | .JSR | .RTS | .BRK | .RTI | .TXS | .LAS | .TAS => true
  | _ => false

/-- Whether an instruction may write PC beyond its own length (R34). -/
def Instr.writesPc (i : Instr) : Bool :=
  match i.mnemonic with
  | .JMP | .JSR | .RTS | .RTI | .BRK | .BCC | .BCS | .BEQ | .BMI | .BNE | .BPL | .BVC | .BVS => true
  | _ => false

/-- The flags an instruction may write (the table of R41), as a mask. -/
def Mnemonic.flagsWritten : Mnemonic → Flags
  | .ADC | .SBC | .RRA | .ISC | .ARR => { n := true, v := true, z := true, c := true, i := false, d := false }
  | .AND | .ORA | .EOR | .LDA | .LDX | .LDY | .TAX | .TAY | .TXA | .TYA | .TSX | .PLA | .INC | .DEC | .INX | .INY
  | .DEX | .DEY | .LAX | .ANE | .LXA | .LAS => { n := true, v := false, z := true, c := false, i := false, d := false }
  | .BIT => { n := true, v := true, z := true, c := false, i := false, d := false }
  | .ASL | .LSR | .ROL | .ROR | .CMP | .CPX | .CPY | .SLO | .RLA | .SRE | .DCP | .ANC | .ALR | .SBX =>
    { n := true, v := false, z := true, c := true, i := false, d := false }
  | .CLC | .SEC => { n := false, v := false, z := false, c := true, i := false, d := false }
  | .CLI | .SEI | .BRK => { n := false, v := false, z := false, c := false, i := true, d := false }
  | .CLV => { n := false, v := true, z := false, c := false, i := false, d := false }
  | .CLD | .SED => { n := false, v := false, z := false, c := false, i := false, d := true }
  | .PLP | .RTI => { n := true, v := true, z := true, c := true, i := true, d := true }
  | .STA | .STX | .STY | .TXS | .PHA | .PHP | .NOP | .JMP | .JSR | .RTS | .BCC | .BCS | .BEQ | .BMI | .BNE | .BPL
  | .BVC | .BVS | .SAX | .SHA | .SHX | .SHY | .TAS | .JAM =>
    { n := false, v := false, z := false, c := false, i := false, d := false }

namespace Machine

/-- Two statuses agree on every flag outside a mask. -/
def Flags.agreeOutside (mask p q : Flags) : Prop :=
  (mask.c = false → p.c = q.c) ∧ (mask.z = false → p.z = q.z) ∧ (mask.i = false → p.i = q.i) ∧
    (mask.d = false → p.d = q.d) ∧ (mask.v = false → p.v = q.v) ∧ (mask.n = false → p.n = q.n)

/-- A state with the decimal flag set to a value. -/
def State.withDecimal (s : State) (d : Bool) : State := s.setP { s.p with d := d }

/-- Push a list of bytes, the first one first. -/
def State.pushAll (s : State) (vs : List Byte) : State := vs.foldl State.push s

/-- Pop n bytes: the bytes in the order they came, and the state after. -/
def State.popAll : Nat → State → List Byte × State
  | 0, s => ([], s)
  | n + 1, s =>
    let (v, s1) := s.pop
    let (vs, s2) := State.popAll n s1
    (v :: vs, s2)

end Machine

end Sys2Proof
end

