-- ==== Sys2Proof/Certificates/Slice0/Obligations.lean ====
section
/-! DEFINITION. The statements of this model, for the provers. -/

open Sys2Proof Sys2Proof.Machine

/-- For every instruction i, with every operand, and whatever bytes follow: i is well formed, and decoding the bytes of i followed by the rest answers i and that rest. Rests on 30_encoding.md sections 1 and 2. -/
def Obligations.DecodeInvertsEncode : Prop :=
  ∀ (i : Instr) (rest : List Byte), i.wellFormed = true ∧ decode (encode i ++ rest) = .ok (i, rest)

/-- Whenever a list of bytes decodes to an instruction i and a rest, the list is the encoding of i followed by that rest: no instruction has two encodings and no bit of the bytes is dropped. Rests on 30_encoding.md sections 1 and 2. -/
def Obligations.EncodeInvertsDecode : Prop :=
  ∀ (bytes rest : List Byte) (i : Instr), decode bytes = .ok (i, rest) → bytes = encode i ++ rest

/-- Any three bytes, followed by anything, decode; and for two sequences with the same opcode byte the decoded instructions have that opcode, one mnemonic, one mode and one length, and each leaves exactly the bytes after its length. Formalises R95. -/
def Obligations.OpcodeByteAloneSelectsInstruction : Prop :=
  ∀ (op b1 b2 c1 c2 : Byte) (r1 r2 : List Byte), ∃ i j : Instr,
    decode (op :: b1 :: b2 :: r1) = .ok (i, (op :: b1 :: b2 :: r1).drop i.length) ∧
    decode (op :: c1 :: c2 :: r2) = .ok (j, (op :: c1 :: c2 :: r2).drop j.length) ∧
    i.opcode = op ∧ j.opcode = op ∧ i.mnemonic = j.mnemonic ∧ i.mode = j.mode ∧ i.length = j.length

/-- Decoding a list of bytes fails exactly when the list is empty, or when fewer bytes follow the opcode than its format has operand bytes; the rejection names which. That the decoder works on lists is the model's own form (log entry 6). Rests on 30_encoding.md section 2, 91_not_in_source.md N1. -/
def Obligations.DecodeRejectsOnlyShortInput : Prop :=
  ∀ (bytes : List Byte) (e : DecodeError), decode bytes = .error e ↔
    (bytes = [] ∧ e = .noOpcode) ∨
    (∃ op rest, bytes = op :: rest ∧ rest.length < (decodeOpcode op 0#8 0#8).mode.operandCount ∧ e = .truncatedOperand op)

/-- Ten byte sequences taken from the opcode table and the worked examples decode to the instructions they stand for, one for each kind of format. Rests on 30_encoding.md section 2 (opcode table), 95_test_vectors.md E5, E6. -/
def Obligations.WrittenOutWordsDecode : Prop :=
  decode [0xA9, 0x01] = .ok (.ldaImm 0x01, []) ∧
  decode [0x99, 0x02, 0x00] = .ok (.staAbsY 0x0002, []) ∧
  decode [0x20, 0x34, 0x12] = .ok (.jsrAbs 0x1234, []) ∧
  decode [0x6C, 0xFF, 0x10] = .ok (.jmpInd 0x10FF, []) ∧
  decode [0x00, 0xEA] = .ok (.brk, [0xEA]) ∧
  decode [0xD0, 0xFE] = .ok (.bne 0xFE, []) ∧
  decode [0x0A] = .ok (.aslAcc, []) ∧
  decode [0xB6, 0xFF] = .ok (.ldxZpY 0xFF, []) ∧
  decode [0x93, 0x10] = .ok (.shaIndY 0x10, []) ∧
  decode [0xEB, 0x03] = .ok (.sbcImmEB 0x03, [])

/-- When the machine is not halted, has no NMI pending and no unmasked IRQ, and the bytes at PC decode to i, the step is the meaning of i at the state whose PC is past the length of i, with the base cycles of i reported; a fault or a refusal of the meaning is the step's. The meaning beginning at the advanced PC is the model's form (log entry 6); the cycle count's place in State is the model's (log entry 4). Rests on 30_encoding.md section 2 (the execution step, steps 1 to 5), 48_control_flow.md preamble. -/
def Obligations.StepRunsTheDecodedInstruction : Prop :=
  ∀ (s : State) (i : Instr) (rest : List Byte), s.fetches = true →
    decode [s.read s.pc, s.read (s.pc + 1#16), s.read (s.pc + 2#16)] = .ok (i, rest) →
    step s = mapNext (fun t => { t with clockResult := some (baseCycles s.config i) })
      (exec i { s with pc := s.pc + BitVec.ofNat 16 i.length })

/-- From a halted state any number n + 1 of steps ends in that same state with JAM_CYCLES reported: no register, flag, latch or memory byte changes, and neither a pending NMI nor an asserted IRQ is taken. The halt is the spec's decision D15. Rests on 60_exceptions.md section 3 (halted state), 92_eei_decisions.md D15. -/
def Obligations.HaltedCoreStaysAsItIs : Prop :=
  ∀ (s : State) (n : Nat), s.halted = true →
    Sys2Proof.core.run (n + 1) s = .next { s with clockResult := some s.config.jamCycles }

/-- When the core is not halted and an NMI is pending, the step clears the latch, pushes PC (high byte, then low byte) and P with bit 4 clear at 0x0100+S, 0x0100+S-1, 0x0100+S-2, sets I, takes PC from the word at 0xFFFA as memory held it before, lowers S by 3 mod 256, reports 7 and changes nothing else. NMI is the spec's decision D12. Rests on 60_exceptions.md sections 2 and 3, 92_eei_decisions.md D12, D13, D14. -/
def Obligations.PendingNmiIsEnteredFirst : Prop :=
  ∀ s : State, s.halted = false → s.nmiPending = true → step s = .next
    { s with
      sp := s.sp - 3#8
      p := { s.p with i := true }
      pc := s.mem.readWord 0xFFFA#16
      nmiPending := false
      clockResult := some 7
      mem := ((s.mem.write (stackAddress s.sp) (hi s.pc)).write (stackAddress (s.sp - 1#8)) (lo s.pc)).write
        (stackAddress (s.sp - 2#8)) (s.p.pack false) }

/-- When the core is not halted, no NMI is pending, irq is 1 and I is 0, the step pushes PC and P with bit 4 clear, sets I, takes PC from the word at 0xFFFE, lowers S by 3 mod 256, reports 7 and changes nothing else. IRQ is the spec's decision D12. Rests on 60_exceptions.md sections 2 and 3, 92_eei_decisions.md D12, D13, D24. -/
def Obligations.UnmaskedIrqIsEntered : Prop :=
  ∀ s : State, s.halted = false → s.nmiPending = false → s.irq = true → s.p.i = false → step s = .next
    { s with
      sp := s.sp - 3#8
      p := { s.p with i := true }
      pc := s.mem.readWord 0xFFFE#16
      clockResult := some 7
      mem := ((s.mem.write (stackAddress s.sp) (hi s.pc)).write (stackAddress (s.sp - 1#8)) (lo s.pc)).write
        (stackAddress (s.sp - 2#8)) (s.p.pack false) }

/-- From every state whatever, the step answers a next state: it never faults and never refuses. Rests on 30_encoding.md section 2 (no encoding traps), 60_exceptions.md section 1, 20_memory.md section 5. -/
def Obligations.StepNeverFaultsOrRefuses : Prop :=
  ∀ s : State, ∃ t : State, step s = .next t

/-- From every state whose memory is in canonical form, a step that answers a next state answers one whose memory is in canonical form. The canonical form is the model's (log entry 1). Rests on 20_memory.md section 1. -/
def Obligations.StepKeepsMemoryCanonical : Prop :=
  ∀ s t : State, Invariant s → step s = .next t → Invariant t

/-- State.reset is what the reset() call leaves of it, has A = X = Y = 0, S = 0xFD, only I set, the inspected status 0x24, neither halted nor an NMI pending, and meets the invariant. The register values are the spec's decisions D2 to D4; the empty memory, irq = 0 and the parameters are the model's (log entries 1, 5, 3). Rests on 10_state.md section 5, 92_eei_decisions.md D1 to D4, D14, D15. -/
def Obligations.ResetStateIsTheSpecsAndMeetsInvariant : Prop :=
  State.reset.resetCall = State.reset ∧ Invariant State.reset ∧
    State.reset.inspect = { a := 0x00, x := 0x00, y := 0x00, sp := 0xFD, pc := 0x0000, p := 0x24 } ∧
    State.reset.halted = false ∧ State.reset.nmiPending = false

/-- From every state, reset() leaves A = X = Y = 0, S = 0xFD, only I set, halted and the NMI latch clear, PC the word at 0xFFFC where the mode is Vector and 0 where it is Zero; memory, the irq level and the parameters stay. The values are the spec's decisions D1 to D4; that irq stays and that no cycle count is recorded are the model's (log entries 5 and 4). Rests on 70_reset_and_hazards.md section 1, 92_eei_decisions.md D1 to D4, D14, D15. -/
def Obligations.ResetCallGivesTheResetValues : Prop :=
  ∀ s : State,
    s.resetCall = { s with
      a := 0x00, x := 0x00, y := 0x00, sp := 0xFD
      p := { c := false, z := false, i := true, d := false, v := false, n := false }
      halted := false, nmiPending := false, clockResult := none
      pc := s.resetCall.pc } ∧
    (s.config.resetPcMode = .vector → s.resetCall.pc = joinWord (s.read 0xFFFD) (s.read 0xFFFC)) ∧
    (s.config.resetPcMode = .zero → s.resetCall.pc = 0x0000)

/-- For every step: the next state is halted if and only if the state was halted before, or the step fetched and the instruction at PC is one of the twelve JAM opcodes. No step leaves the halted state. Rests on 10_state.md section 3 (halted), 49_undocumented.md section 6 (JAM), 92_eei_decisions.md D15. -/
def Obligations.OnlyJamHalts : Prop :=
  ∀ s t : State, step s = .next t →
    (t.halted = true ↔ s.halted = true ∨ (s.fetches = true ∧
      s.read s.pc ∈ [0x02#8, 0x12#8, 0x22#8, 0x32#8, 0x42#8, 0x52#8, 0x62#8, 0x72#8, 0x92#8, 0xB2#8, 0xD2#8, 0xF2#8]))

/-- For every step: irq and the parameters are as before, and the NMI latch holds after it exactly when it held before and the core was halted. The latch is the spec's decision D14; the parameters' place in State is the model's (log entry 3). Rests on 60_exceptions.md section 2, 10_state.md section 3, 92_eei_decisions.md D12, D14. -/
def Obligations.StepLeavesInputsAndParameters : Prop :=
  ∀ s t : State, step s = .next t →
    t.irq = s.irq ∧ t.config = s.config ∧ t.nmiPending = (s.nmiPending && s.halted)

/-- For every instruction and state: A is unchanged unless the instruction is on the list of those that write A, and likewise X, Y, S, and PC beyond the instruction's own length; and the halt flag is unchanged unless the instruction is JAM, while irq, the NMI latch, the parameters and the recorded cycle count never change. That the parameters and the recorded count are fields of State is the model's choice (log entries 3 and 4), as is holding irq there (log entry 5). Rests on 10_state.md sections 1, 3 and 4, 49_undocumented.md section 6 (JAM), 60_exceptions.md section 2, 00_scope.md section 4. -/
def Obligations.OnlyListedInstructionsWriteEachRegister : Prop :=
  ∀ (i : Instr) (s t : State), exec i s = .next t →
    (i.writesA = false → t.a = s.a) ∧ (i.writesX = false → t.x = s.x) ∧ (i.writesY = false → t.y = s.y) ∧
    (i.writesSp = false → t.sp = s.sp) ∧ (i.writesPc = false → t.pc = s.pc) ∧
    (i.mnemonic ≠ .JAM → t.halted = s.halted) ∧ t.irq = s.irq ∧ t.nmiPending = s.nmiPending ∧
    t.config = s.config ∧ t.clockResult = s.clockResult

/-- For every instruction and state, every flag that the table of flags written does not give the instruction is unchanged. Rests on 10_state.md section 2 (the table of flags written), 92_eei_decisions.md D20. -/
def Obligations.FlagsOutsideTheTableAreUnchanged : Prop :=
  ∀ (i : Instr) (s t : State), exec i s = .next t → Flags.agreeOutside i.mnemonic.flagsWritten t.p s.p

/-- For every instruction and state: every address that is not one the instruction stores to (its effective address; for the SH* group the address with the replaced high byte; for pushes the stack addresses from S down) reads as before, and an instruction that stores nothing leaves memory as it is. Rests on 20_memory.md sections 4 and 6, 40_addressing_modes.md sections 1 to 3, 49_undocumented.md section 5. -/
def Obligations.MemoryChangesOnlyAtStoredAddresses : Prop :=
  ∀ (i : Instr) (s t : State), exec i s = .next t →
    (∀ a : Word, a ∉ i.storedAddresses s → t.read a = s.read a) ∧
    (i.storedAddresses s = [] → t.mem = s.mem)

/-- For every instruction other than PHP and BRK (which push P and so read D), from two states that differ only in the decimal flag the meaning completes in two states that differ at most in the decimal flag. Rests on 41_arithmetic.md (decimal mode), 10_state.md section 2, 92_eei_decisions.md D7. -/
def Obligations.OnlyPushesReadTheDecimalFlag : Prop :=
  ∀ (i : Instr) (s : State) (d : Bool), i.mnemonic ≠ .PHP → i.mnemonic ≠ .BRK →
    ∃ t u : State, exec i s = .next t ∧ exec i (s.withDecimal d) = .next u ∧
      u.withDecimal false = t.withDecimal false

/-- After a byte v is written at a, and then any sequence of bytes at other addresses, the read at a gives v; and a write at a changes the read of no other address. Formalises R62. -/
def Obligations.WrittenByteIsReadUntilTheNextWrite : Prop :=
  ∀ (m : Memory) (a : Word) (v : Byte) (later : List (Word × Byte)), (∀ c ∈ later, c.1 ≠ a) →
    (later.foldl (fun n c => n.write c.1 c.2) (m.write a v)).read a = v ∧
    ∀ b : Word, b ≠ a → (m.write a v).read b = m.read b

/-- Canonical memories are determined by what they read as at the 65,536 addresses. The canonical form is the model's (log entry 1). Rests on 20_memory.md section 1. -/
def Obligations.CanonicalMemoriesWithEqualReadsAreEqual : Prop :=
  ∀ m n : Memory, m.wf = true → n.wf = true → (∀ a : Word, m.read a = n.read a) → m = n

/-- The word read at a is the byte at a plus 256 times the byte at (a + 1) mod 2^16; the pointer read at zero-page z is the byte at z plus 256 times the byte at (z + 1) mod 256. Formalises R64, R65. -/
def Obligations.WordsAreLittleEndianAndWrap : Prop :=
  ∀ (m : Memory) (a : Word) (z : Byte),
    (m.readWord a).toNat = (m.read a).toNat + 256 * (m.read (BitVec.ofNat 16 ((a.toNat + 1) % 65536))).toNat ∧
    (m.readPointer z).toNat =
      (m.read (BitVec.ofNat 16 z.toNat)).toNat + 256 * (m.read (BitVec.ofNat 16 ((z.toNat + 1) % 256))).toNat

/-- Zero page is the byte itself, zero page indexed the sum mod 256, absolute indexed and (Indirect),Y the sum mod 2^16, (Indirect,X) the pointer at the sum mod 256, and a stack address is 256 plus S; the resolver's effective address for each mode is that address, and none for Implied and Accumulator. That Immediate and Relative have none is the model's choice (log entry 6): their operand is the instruction's own byte, where the spec has op point at that byte. Rests on 40_addressing_modes.md sections 1 and 3, 20_memory.md section 1 (address arithmetic), 20_memory.md section 2 (zero-page pointers). -/
def Obligations.AddressingModesComputeTheirAddresses : Prop :=
  ∀ (s : State) (z : Byte) (w : Word),
    (eaZp z).toNat = z.toNat ∧ (s.eaZpX z).toNat = (z.toNat + s.x.toNat) % 256 ∧
    (s.eaZpY z).toNat = (z.toNat + s.y.toNat) % 256 ∧ eaAbs w = w ∧
    (s.eaAbsX w).toNat = (w.toNat + s.x.toNat) % 65536 ∧ (s.eaAbsY w).toNat = (w.toNat + s.y.toNat) % 65536 ∧
    s.eaIndX z = s.mem.readPointer (z + s.x) ∧
    (s.eaIndY z).toNat = ((s.mem.readPointer z).toNat + s.y.toNat) % 65536 ∧
    (stackAddress s.sp).toNat = 256 + s.sp.toNat ∧
    s.effectiveAddress .zp (.byte z) = some (eaZp z) ∧ s.effectiveAddress .zpx (.byte z) = some (s.eaZpX z) ∧
    s.effectiveAddress .zpy (.byte z) = some (s.eaZpY z) ∧ s.effectiveAddress .izx (.byte z) = some (s.eaIndX z) ∧
    s.effectiveAddress .izy (.byte z) = some (s.eaIndY z) ∧ s.effectiveAddress .abs (.word w) = some (eaAbs w) ∧
    s.effectiveAddress .abx (.word w) = some (s.eaAbsX w) ∧ s.effectiveAddress .aby (.word w) = some (s.eaAbsY w) ∧
    s.effectiveAddress .ind (.word w) = some (s.eaInd w) ∧
    ∀ o : Operands, s.effectiveAddress .imp o = none ∧ s.effectiveAddress .acc o = none ∧
      s.effectiveAddress .imm o = none ∧ s.effectiveAddress .rel o = none

/-- Pushing v leaves the byte v at 0x0100 + S, every other byte as it was, S one less mod 256 and every other field as before; popping raises S by one mod 256, answers the byte at 0x0100 + the new S and changes nothing else. Formalises R136, R137. -/
def Obligations.PushWritesThenLowersS : Prop :=
  ∀ (s : State) (v : Byte),
    s.push v = { s with mem := s.mem.write (0x0100#16 + s.sp.setWidth 16) v, sp := s.sp - 1#8 } ∧
    (s.push v).read (0x0100#16 + s.sp.setWidth 16) = v ∧
    (∀ a : Word, a ≠ 0x0100#16 + s.sp.setWidth 16 → (s.push v).read a = s.read a) ∧
    s.pop = (s.read (0x0100#16 + (s.sp + 1#8).setWidth 16), { s with sp := s.sp + 1#8 })

/-- After pushing a list of at most 256 bytes, popping as many answers them in reverse; after pushing and popping any number of bytes, however many, S is what it was, and A, X, Y, PC and P never changed. The bound of 256 is C9's. Rests on 40_addressing_modes.md section 3, 90_conflicts.md C9. -/
def Obligations.PopsReturnPushesInReverse : Prop :=
  ∀ (s : State) (vs : List Byte),
    (vs.length ≤ 256 → (State.popAll vs.length (s.pushAll vs)).1 = vs.reverse) ∧
    (State.popAll vs.length (s.pushAll vs)).2 = { s with mem := (s.pushAll vs).mem }

/-- For every status and every break bit, bit 5 of the materialized byte is 1; and restoring P from a byte gives the same status whether bit 5 of the byte is set or clear. Formalises R37. -/
def Obligations.StatusByteShowsBitFiveSet : Prop :=
  ∀ (p : Flags) (b : Bool) (v : Byte),
    (p.pack b).getLsbD 5 = true ∧ Flags.unpack (v ||| 0x20#8) = Flags.unpack v ∧
    Flags.unpack (v &&& 0xDF#8) = Flags.unpack v

/-- UnpackP takes C, Z, I, D, V, N from bits 0, 1, 2, 3, 6, 7; restoring what was materialized, with either break bit, gives the status back; and materializing what was restored gives the byte with bit 5 forced to 1 and bit 4 to the break bit. Formalises R39. -/
def Obligations.StatusRestoredFromItsByte : Prop :=
  ∀ (v : Byte) (p : Flags) (b : Bool),
    Flags.unpack v = { c := v.getLsbD 0, z := v.getLsbD 1, i := v.getLsbD 2, d := v.getLsbD 3, v := v.getLsbD 6, n := v.getLsbD 7 } ∧
    Flags.unpack (p.pack b) = p ∧
    (Flags.unpack v).pack b = (v &&& 0xCF#8) ||| 0x20#8 ||| (if b then 0x10#8 else 0x00#8)

/-- Each ADC completes: A is (A + m + C) mod 256, C is whether the exact sum exceeds 0xFF, V is the sign-bit formula, N and Z are of the result; I, D and everything else, memory included, are as before. Bytes and cycles are the row of the opcode table, which the spec takes from general knowledge (log entry 8). Rests on 41_arithmetic.md (ADC), 92_eei_decisions.md D7. -/
def Obligations.AdcAddsWithCarry : Prop :=
  ∀ (s : State) (i z : Byte) (w : Word),
  let t := fun (m : Byte) =>
    let r := BitVec.ofNat 8 (s.a.toNat + m.toNat + s.p.c.toNat)
    { s with a := r, p := { s.p with
      c := decide (s.a.toNat + m.toNat + s.p.c.toNat > 0xFF)
      v := decide ((~~~(s.a ^^^ m) &&& (s.a ^^^ r) &&& 0x80#8) ≠ 0#8)
      n := (r).getLsbD 7, z := decide (r = 0#8) } }
  RunsAs s (.adcIndX z) [0x61#8, z] 6 (t (s.read (s.eaIndX z))) ∧
  RunsAs s (.adcZp z) [0x65#8, z] 3 (t (s.read (eaZp z))) ∧
  RunsAs s (.adcImm i) [0x69#8, i] 2 (t i) ∧
  RunsAs s (.adcAbs w) [0x6D#8, lo w, hi w] 4 (t (s.read (eaAbs w))) ∧
  RunsAs s (.adcIndY z) [0x71#8, z] 5 (t (s.read (s.eaIndY z))) ∧
  RunsAs s (.adcZpX z) [0x75#8, z] 4 (t (s.read (s.eaZpX z))) ∧
  RunsAs s (.adcAbsY w) [0x79#8, lo w, hi w] 4 (t (s.read (s.eaAbsY w))) ∧
  RunsAs s (.adcAbsX w) [0x7D#8, lo w, hi w] 4 (t (s.read (s.eaAbsX w)))

/-- Each SBC, the undocumented 0xEB among them, completes: with b the complement of the operand, A is (A + b + C) mod 256, C is whether the exact sum exceeds 0xFF, V is the sign-bit formula on A and b, N and Z are of the result; everything else is as before. Bytes and cycles are the row of the opcode table, which the spec takes from general knowledge (log entry 8). Rests on 41_arithmetic.md (SBC), 49_undocumented.md section 6 (SBC 0xEB), 92_eei_decisions.md D7. -/
def Obligations.SbcAddsTheComplement : Prop :=
  ∀ (s : State) (i z : Byte) (w : Word),
  let t := fun (m : Byte) =>
    let b := ~~~m
    let r := BitVec.ofNat 8 (s.a.toNat + b.toNat + s.p.c.toNat)
    { s with a := r, p := { s.p with
      c := decide (s.a.toNat + b.toNat + s.p.c.toNat > 0xFF)
      v := decide ((~~~(s.a ^^^ b) &&& (s.a ^^^ r) &&& 0x80#8) ≠ 0#8)
      n := (r).getLsbD 7, z := decide (r = 0#8) } }
  RunsAs s (.sbcIndX z) [0xE1#8, z] 6 (t (s.read (s.eaIndX z))) ∧
  RunsAs s (.sbcZp z) [0xE5#8, z] 3 (t (s.read (eaZp z))) ∧
  RunsAs s (.sbcImm i) [0xE9#8, i] 2 (t i) ∧
  RunsAs s (.sbcImmEB i) [0xEB#8, i] 2 (t i) ∧
  RunsAs s (.sbcAbs w) [0xED#8, lo w, hi w] 4 (t (s.read (eaAbs w))) ∧
  RunsAs s (.sbcIndY z) [0xF1#8, z] 5 (t (s.read (s.eaIndY z))) ∧
  RunsAs s (.sbcZpX z) [0xF5#8, z] 4 (t (s.read (s.eaZpX z))) ∧
  RunsAs s (.sbcAbsY w) [0xF9#8, lo w, hi w] 4 (t (s.read (s.eaAbsY w))) ∧
  RunsAs s (.sbcAbsX w) [0xFD#8, lo w, hi w] 4 (t (s.read (s.eaAbsX w)))

/-- ADC #m: A is (A + m + C) mod 256, C is whether that sum reaches 256, V is whether the signed sum lies outside -128..127. SBC #m: A is (A - m - (1 - C)) mod 256, C is whether that difference is not negative, V is whether the signed difference lies outside -128..127. Rests on 41_arithmetic.md (integer arithmetic laws). -/
def Obligations.AddAndSubtractObeyIntegerArithmetic : Prop :=
  ∀ (s : State) (m : Byte), ∃ t u : State, exec (.adcImm m) s = .next t ∧ exec (.sbcImm m) s = .next u ∧
    t.a.toNat = (s.a.toNat + m.toNat + s.p.c.toNat) % 256 ∧
    (t.p.c = true ↔ 256 ≤ s.a.toNat + m.toNat + s.p.c.toNat) ∧
    (t.p.v = true ↔ s.a.toInt + m.toInt + s.p.c.toNat < -128 ∨ 127 < s.a.toInt + m.toInt + s.p.c.toNat) ∧
    (u.a.toNat : Int) = ((s.a.toNat : Int) - m.toNat - (1 - s.p.c.toNat)) % 256 ∧
    (u.p.c = true ↔ 0 ≤ (s.a.toNat : Int) - m.toNat - (1 - s.p.c.toNat)) ∧
    (u.p.v = true ↔ s.a.toInt - m.toInt - (1 - s.p.c.toNat) < -128 ∨ 127 < s.a.toInt - m.toInt - (1 - s.p.c.toNat))

/-- The four meanings in sequence complete, and A after them is A before; X, Y, S, PC, memory, I and D are as before too. Rests on 41_arithmetic.md (round trip of ADC and SBC), 90_conflicts.md C4. -/
def Obligations.AdcThenSbcRestoresA : Prop :=
  ∀ (s : State) (m : Byte), ∃ s1 s2 s3 s4 : State,
    exec .clc s = .next s1 ∧ exec (.adcImm m) s1 = .next s2 ∧ exec .sec s2 = .next s3 ∧
    exec (.sbcImm m) s3 = .next s4 ∧ s4 = { s with p := s4.p } ∧ s4.p.i = s.p.i ∧ s4.p.d = s.p.d

/-- Each AND, ORA and EOR completes with A the bitwise and, or, exclusive or of A and the operand byte, N and Z of the result, and everything else, C, V, I, D and memory included, as before. Bytes and cycles are the row of the opcode table, which the spec takes from general knowledge (log entry 8). Formalises R160, R161, R162. -/
def Obligations.LogicalInstructionsCombineWithA : Prop :=
  ∀ (s : State) (i z : Byte) (w : Word),
  let tAnd := fun (m : Byte) => { s with a := s.a &&& m, p := { s.p with n := (s.a &&& m).getLsbD 7, z := decide ((s.a &&& m) = 0#8) } }
  let tOra := fun (m : Byte) => { s with a := s.a ||| m, p := { s.p with n := (s.a ||| m).getLsbD 7, z := decide ((s.a ||| m) = 0#8) } }
  let tEor := fun (m : Byte) => { s with a := s.a ^^^ m, p := { s.p with n := (s.a ^^^ m).getLsbD 7, z := decide ((s.a ^^^ m) = 0#8) } }
  RunsAs s (.andIndX z) [0x21#8, z] 6 (tAnd (s.read (s.eaIndX z))) ∧
  RunsAs s (.andZp z) [0x25#8, z] 3 (tAnd (s.read (eaZp z))) ∧
  RunsAs s (.andImm i) [0x29#8, i] 2 (tAnd i) ∧
  RunsAs s (.andAbs w) [0x2D#8, lo w, hi w] 4 (tAnd (s.read (eaAbs w))) ∧
  RunsAs s (.andIndY z) [0x31#8, z] 5 (tAnd (s.read (s.eaIndY z))) ∧
  RunsAs s (.andZpX z) [0x35#8, z] 4 (tAnd (s.read (s.eaZpX z))) ∧
  RunsAs s (.andAbsY w) [0x39#8, lo w, hi w] 4 (tAnd (s.read (s.eaAbsY w))) ∧
  RunsAs s (.andAbsX w) [0x3D#8, lo w, hi w] 4 (tAnd (s.read (s.eaAbsX w))) ∧
  RunsAs s (.oraIndX z) [0x01#8, z] 6 (tOra (s.read (s.eaIndX z))) ∧
  RunsAs s (.oraZp z) [0x05#8, z] 3 (tOra (s.read (eaZp z))) ∧
  RunsAs s (.oraImm i) [0x09#8, i] 2 (tOra i) ∧
  RunsAs s (.oraAbs w) [0x0D#8, lo w, hi w] 4 (tOra (s.read (eaAbs w))) ∧
  RunsAs s (.oraIndY z) [0x11#8, z] 5 (tOra (s.read (s.eaIndY z))) ∧
  RunsAs s (.oraZpX z) [0x15#8, z] 4 (tOra (s.read (s.eaZpX z))) ∧
  RunsAs s (.oraAbsY w) [0x19#8, lo w, hi w] 4 (tOra (s.read (s.eaAbsY w))) ∧
  RunsAs s (.oraAbsX w) [0x1D#8, lo w, hi w] 4 (tOra (s.read (s.eaAbsX w))) ∧
  RunsAs s (.eorIndX z) [0x41#8, z] 6 (tEor (s.read (s.eaIndX z))) ∧
  RunsAs s (.eorZp z) [0x45#8, z] 3 (tEor (s.read (eaZp z))) ∧
  RunsAs s (.eorImm i) [0x49#8, i] 2 (tEor i) ∧
  RunsAs s (.eorAbs w) [0x4D#8, lo w, hi w] 4 (tEor (s.read (eaAbs w))) ∧
  RunsAs s (.eorIndY z) [0x51#8, z] 5 (tEor (s.read (s.eaIndY z))) ∧
  RunsAs s (.eorZpX z) [0x55#8, z] 4 (tEor (s.read (s.eaZpX z))) ∧
  RunsAs s (.eorAbsY w) [0x59#8, lo w, hi w] 4 (tEor (s.read (s.eaAbsY w))) ∧
  RunsAs s (.eorAbsX w) [0x5D#8, lo w, hi w] 4 (tEor (s.read (s.eaAbsX w)))

/-- Both BIT forms complete: Z is whether A & m is 0, N is bit 7 and V bit 6 of the memory byte; A, C and everything else are as before. The semantics are the spec's from general knowledge (G4, D21). Bytes and cycles are the row of the opcode table, which the spec takes from general knowledge (log entry 8). Rests on 42_logical.md (BIT), 92_eei_decisions.md D21. -/
def Obligations.BitTestsMemoryAgainstA : Prop :=
  ∀ (s : State) (z : Byte) (w : Word),
  let t := fun (m : Byte) => { s with p := { s.p with z := decide ((s.a &&& m) = 0#8), n := m.getLsbD 7, v := m.getLsbD 6 } }
  RunsAs s (.bitZp z) [0x24#8, z] 3 (t (s.read (eaZp z))) ∧
  RunsAs s (.bitAbs w) [0x2C#8, lo w, hi w] 4 (t (s.read (eaAbs w)))

/-- Each ASL and LSR completes: the byte, of A or of memory at the mode's address, is shifted by one with zero shifted in and written back to the same place; C is the bit shifted out, N and Z are of the result; everything else is as before. Bytes and cycles are the row of the opcode table, which the spec takes from general knowledge (log entry 8). Formalises R170, R171. -/
def Obligations.ShiftsMoveOneBitIntoCarry : Prop :=
  ∀ (s : State) (z : Byte) (w : Word),
  let aslM := fun (a : Word) =>
    let m := s.read a
    let r := m <<< 1
    { s with mem := s.mem.write a r, p := { s.p with c := m.getLsbD 7, n := (r).getLsbD 7, z := decide (r = 0#8) } }
  let aslA :=
    let m := s.a
    let r := m <<< 1
    { s with a := r, p := { s.p with c := m.getLsbD 7, n := (r).getLsbD 7, z := decide (r = 0#8) } }
  let lsrM := fun (a : Word) =>
    let m := s.read a
    let r := m >>> 1
    { s with mem := s.mem.write a r, p := { s.p with c := m.getLsbD 0, n := (r).getLsbD 7, z := decide (r = 0#8) } }
  let lsrA :=
    let m := s.a
    let r := m >>> 1
    { s with a := r, p := { s.p with c := m.getLsbD 0, n := (r).getLsbD 7, z := decide (r = 0#8) } }
  RunsAs s (.aslZp z) [0x06#8, z] 5 (aslM (eaZp z)) ∧
  RunsAs s .aslAcc [0x0A#8] 2 aslA ∧
  RunsAs s (.aslAbs w) [0x0E#8, lo w, hi w] 6 (aslM (eaAbs w)) ∧
  RunsAs s (.aslZpX z) [0x16#8, z] 6 (aslM (s.eaZpX z)) ∧
  RunsAs s (.aslAbsX w) [0x1E#8, lo w, hi w] 7 (aslM (s.eaAbsX w)) ∧
  RunsAs s (.lsrZp z) [0x46#8, z] 5 (lsrM (eaZp z)) ∧
  RunsAs s .lsrAcc [0x4A#8] 2 lsrA ∧
  RunsAs s (.lsrAbs w) [0x4E#8, lo w, hi w] 6 (lsrM (eaAbs w)) ∧
  RunsAs s (.lsrZpX z) [0x56#8, z] 6 (lsrM (s.eaZpX z)) ∧
  RunsAs s (.lsrAbsX w) [0x5E#8, lo w, hi w] 7 (lsrM (s.eaAbsX w))

/-- Each ROL and ROR completes: the byte is rotated by one through C and written back to the same place; the old carry enters at the vacated bit, C is the bit that left, N and Z are of the result; everything else is as before. Bytes and cycles are the row of the opcode table, which the spec takes from general knowledge (log entry 8). Formalises R172, R173. -/
def Obligations.RotatesPassThroughCarry : Prop :=
  ∀ (s : State) (z : Byte) (w : Word),
  let rolM := fun (a : Word) =>
    let m := s.read a
    let r := (m <<< 1) ||| (if s.p.c then 0x01#8 else 0x00#8)
    { s with mem := s.mem.write a r, p := { s.p with c := m.getLsbD 7, n := (r).getLsbD 7, z := decide (r = 0#8) } }
  let rolA :=
    let m := s.a
    let r := (m <<< 1) ||| (if s.p.c then 0x01#8 else 0x00#8)
    { s with a := r, p := { s.p with c := m.getLsbD 7, n := (r).getLsbD 7, z := decide (r = 0#8) } }
  let rorM := fun (a : Word) =>
    let m := s.read a
    let r := (m >>> 1) ||| (if s.p.c then 0x80#8 else 0x00#8)
    { s with mem := s.mem.write a r, p := { s.p with c := m.getLsbD 0, n := (r).getLsbD 7, z := decide (r = 0#8) } }
  let rorA :=
    let m := s.a
    let r := (m >>> 1) ||| (if s.p.c then 0x80#8 else 0x00#8)
    { s with a := r, p := { s.p with c := m.getLsbD 0, n := (r).getLsbD 7, z := decide (r = 0#8) } }
  RunsAs s (.rolZp z) [0x26#8, z] 5 (rolM (eaZp z)) ∧
  RunsAs s .rolAcc [0x2A#8] 2 rolA ∧
  RunsAs s (.rolAbs w) [0x2E#8, lo w, hi w] 6 (rolM (eaAbs w)) ∧
  RunsAs s (.rolZpX z) [0x36#8, z] 6 (rolM (s.eaZpX z)) ∧
  RunsAs s (.rolAbsX w) [0x3E#8, lo w, hi w] 7 (rolM (s.eaAbsX w)) ∧
  RunsAs s (.rorZp z) [0x66#8, z] 5 (rorM (eaZp z)) ∧
  RunsAs s .rorAcc [0x6A#8] 2 rorA ∧
  RunsAs s (.rorAbs w) [0x6E#8, lo w, hi w] 6 (rorM (eaAbs w)) ∧
  RunsAs s (.rorZpX z) [0x76#8, z] 6 (rorM (s.eaZpX z)) ∧
  RunsAs s (.rorAbsX w) [0x7E#8, lo w, hi w] 7 (rorM (s.eaAbsX w))

/-- Each compare completes with N bit 7 of (R - m) mod 256, Z whether R = m, C whether R >= m unsigned; no register and no byte of memory changes. C and N are the spec's decisions D5 and D6. Bytes and cycles are the row of the opcode table, which the spec takes from general knowledge (log entry 8). Rests on 44_compare.md, 90_conflicts.md C1, C2, 92_eei_decisions.md D5, D6. -/
def Obligations.ComparesSetFlagsOfTheDifference : Prop :=
  ∀ (s : State) (i z : Byte) (w : Word),
  let t := fun (r m : Byte) => { s with p := { s.p with n := (r - m).getLsbD 7, z := decide (r = m), c := decide (m.toNat ≤ r.toNat) } }
  RunsAs s (.cmpIndX z) [0xC1#8, z] 6 (t s.a (s.read (s.eaIndX z))) ∧
  RunsAs s (.cmpZp z) [0xC5#8, z] 3 (t s.a (s.read (eaZp z))) ∧
  RunsAs s (.cmpImm i) [0xC9#8, i] 2 (t s.a i) ∧
  RunsAs s (.cmpAbs w) [0xCD#8, lo w, hi w] 4 (t s.a (s.read (eaAbs w))) ∧
  RunsAs s (.cmpIndY z) [0xD1#8, z] 5 (t s.a (s.read (s.eaIndY z))) ∧
  RunsAs s (.cmpZpX z) [0xD5#8, z] 4 (t s.a (s.read (s.eaZpX z))) ∧
  RunsAs s (.cmpAbsY w) [0xD9#8, lo w, hi w] 4 (t s.a (s.read (s.eaAbsY w))) ∧
  RunsAs s (.cmpAbsX w) [0xDD#8, lo w, hi w] 4 (t s.a (s.read (s.eaAbsX w))) ∧
  RunsAs s (.cpxImm i) [0xE0#8, i] 2 (t s.x i) ∧
  RunsAs s (.cpxZp z) [0xE4#8, z] 3 (t s.x (s.read (eaZp z))) ∧
  RunsAs s (.cpxAbs w) [0xEC#8, lo w, hi w] 4 (t s.x (s.read (eaAbs w))) ∧
  RunsAs s (.cpyImm i) [0xC0#8, i] 2 (t s.y i) ∧
  RunsAs s (.cpyZp z) [0xC4#8, z] 3 (t s.y (s.read (eaZp z))) ∧
  RunsAs s (.cpyAbs w) [0xCC#8, lo w, hi w] 4 (t s.y (s.read (eaAbs w)))

/-- Each INC and DEC completes with the byte at the mode's address one more or less mod 256, N and Z of the result, and everything else, C and V included, as before. Bytes and cycles are the row of the opcode table, which the spec takes from general knowledge (log entry 8). Formalises R190, R191. -/
def Obligations.MemoryIncrementsAndDecrements : Prop :=
  ∀ (s : State) (z : Byte) (w : Word),
  let tInc := fun (a : Word) => { s with mem := s.mem.write a (s.read a + 1), p := { s.p with n := (s.read a + 1).getLsbD 7, z := decide (s.read a + 1 = 0#8) } }
  let tDec := fun (a : Word) => { s with mem := s.mem.write a (s.read a - 1), p := { s.p with n := (s.read a - 1).getLsbD 7, z := decide (s.read a - 1 = 0#8) } }
  RunsAs s (.incZp z) [0xE6#8, z] 5 (tInc (eaZp z)) ∧
  RunsAs s (.incAbs w) [0xEE#8, lo w, hi w] 6 (tInc (eaAbs w)) ∧
  RunsAs s (.incZpX z) [0xF6#8, z] 6 (tInc (s.eaZpX z)) ∧
  RunsAs s (.incAbsX w) [0xFE#8, lo w, hi w] 7 (tInc (s.eaAbsX w)) ∧
  RunsAs s (.decZp z) [0xC6#8, z] 5 (tDec (eaZp z)) ∧
  RunsAs s (.decAbs w) [0xCE#8, lo w, hi w] 6 (tDec (eaAbs w)) ∧
  RunsAs s (.decZpX z) [0xD6#8, z] 6 (tDec (s.eaZpX z)) ∧
  RunsAs s (.decAbsX w) [0xDE#8, lo w, hi w] 7 (tDec (s.eaAbsX w))

/-- INX, INY, DEX and DEY complete with the register one more or less mod 256, N and Z of the result, and everything else as before. Bytes and cycles are the row of the opcode table, which the spec takes from general knowledge (log entry 8). Formalises R192, R193, R194, R195. -/
def Obligations.IndexIncrementsAndDecrements : Prop :=
  ∀ s : State,
  RunsAs s .inx [0xE8#8] 2 { s with x := s.x + 1, p := { s.p with n := (s.x + 1).getLsbD 7, z := decide (s.x + 1 = 0#8) } } ∧
  RunsAs s .iny [0xC8#8] 2 { s with y := s.y + 1, p := { s.p with n := (s.y + 1).getLsbD 7, z := decide (s.y + 1 = 0#8) } } ∧
  RunsAs s .dex [0xCA#8] 2 { s with x := s.x - 1, p := { s.p with n := (s.x - 1).getLsbD 7, z := decide (s.x - 1 = 0#8) } } ∧
  RunsAs s .dey [0x88#8] 2 { s with y := s.y - 1, p := { s.p with n := (s.y - 1).getLsbD 7, z := decide (s.y - 1 = 0#8) } }

/-- Each load completes with its register the operand byte, N and Z of that byte, and everything else as before. Bytes and cycles are the row of the opcode table, which the spec takes from general knowledge (log entry 8). Formalises R200, R201, R202. -/
def Obligations.LoadsCopyTheOperand : Prop :=
  ∀ (s : State) (i z : Byte) (w : Word),
  let tA := fun (m : Byte) => { s with a := m, p := { s.p with n := (m).getLsbD 7, z := decide (m = 0#8) } }
  let tX := fun (m : Byte) => { s with x := m, p := { s.p with n := (m).getLsbD 7, z := decide (m = 0#8) } }
  let tY := fun (m : Byte) => { s with y := m, p := { s.p with n := (m).getLsbD 7, z := decide (m = 0#8) } }
  RunsAs s (.ldaIndX z) [0xA1#8, z] 6 (tA (s.read (s.eaIndX z))) ∧
  RunsAs s (.ldaZp z) [0xA5#8, z] 3 (tA (s.read (eaZp z))) ∧
  RunsAs s (.ldaImm i) [0xA9#8, i] 2 (tA i) ∧
  RunsAs s (.ldaAbs w) [0xAD#8, lo w, hi w] 4 (tA (s.read (eaAbs w))) ∧
  RunsAs s (.ldaIndY z) [0xB1#8, z] 5 (tA (s.read (s.eaIndY z))) ∧
  RunsAs s (.ldaZpX z) [0xB5#8, z] 4 (tA (s.read (s.eaZpX z))) ∧
  RunsAs s (.ldaAbsY w) [0xB9#8, lo w, hi w] 4 (tA (s.read (s.eaAbsY w))) ∧
  RunsAs s (.ldaAbsX w) [0xBD#8, lo w, hi w] 4 (tA (s.read (s.eaAbsX w))) ∧
  RunsAs s (.ldxImm i) [0xA2#8, i] 2 (tX i) ∧
  RunsAs s (.ldxZp z) [0xA6#8, z] 3 (tX (s.read (eaZp z))) ∧
  RunsAs s (.ldxAbs w) [0xAE#8, lo w, hi w] 4 (tX (s.read (eaAbs w))) ∧
  RunsAs s (.ldxZpY z) [0xB6#8, z] 4 (tX (s.read (s.eaZpY z))) ∧
  RunsAs s (.ldxAbsY w) [0xBE#8, lo w, hi w] 4 (tX (s.read (s.eaAbsY w))) ∧
  RunsAs s (.ldyImm i) [0xA0#8, i] 2 (tY i) ∧
  RunsAs s (.ldyZp z) [0xA4#8, z] 3 (tY (s.read (eaZp z))) ∧
  RunsAs s (.ldyAbs w) [0xAC#8, lo w, hi w] 4 (tY (s.read (eaAbs w))) ∧
  RunsAs s (.ldyZpX z) [0xB4#8, z] 4 (tY (s.read (s.eaZpX z))) ∧
  RunsAs s (.ldyAbsX w) [0xBC#8, lo w, hi w] 4 (tY (s.read (s.eaAbsX w)))

/-- Each store completes with the register's byte written at the mode's address and everything else, every flag included, as before. Bytes and cycles are the row of the opcode table, which the spec takes from general knowledge (log entry 8). Formalises R203, R204, R205. -/
def Obligations.StoresWriteTheRegister : Prop :=
  ∀ (s : State) (z : Byte) (w : Word),
  let tA := fun (a : Word) => { s with mem := s.mem.write a s.a }
  let tX := fun (a : Word) => { s with mem := s.mem.write a s.x }
  let tY := fun (a : Word) => { s with mem := s.mem.write a s.y }
  RunsAs s (.staIndX z) [0x81#8, z] 6 (tA (s.eaIndX z)) ∧
  RunsAs s (.staZp z) [0x85#8, z] 3 (tA (eaZp z)) ∧
  RunsAs s (.staAbs w) [0x8D#8, lo w, hi w] 4 (tA (eaAbs w)) ∧
  RunsAs s (.staIndY z) [0x91#8, z] 6 (tA (s.eaIndY z)) ∧
  RunsAs s (.staZpX z) [0x95#8, z] 4 (tA (s.eaZpX z)) ∧
  RunsAs s (.staAbsY w) [0x99#8, lo w, hi w] 5 (tA (s.eaAbsY w)) ∧
  RunsAs s (.staAbsX w) [0x9D#8, lo w, hi w] 5 (tA (s.eaAbsX w)) ∧
  RunsAs s (.stxZp z) [0x86#8, z] 3 (tX (eaZp z)) ∧
  RunsAs s (.stxAbs w) [0x8E#8, lo w, hi w] 4 (tX (eaAbs w)) ∧
  RunsAs s (.stxZpY z) [0x96#8, z] 4 (tX (s.eaZpY z)) ∧
  RunsAs s (.styZp z) [0x84#8, z] 3 (tY (eaZp z)) ∧
  RunsAs s (.styAbs w) [0x8C#8, lo w, hi w] 4 (tY (eaAbs w)) ∧
  RunsAs s (.styZpX z) [0x94#8, z] 4 (tY (s.eaZpX z))

/-- Each transfer completes with the destination the source register; N and Z are of the value, but TXS affects no flag; everything else is as before. Bytes and cycles are the row of the opcode table, which the spec takes from general knowledge (log entry 8). Formalises R206, R207, R208, R209, R210, R211. -/
def Obligations.TransfersCopyRegisters : Prop :=
  ∀ s : State,
  RunsAs s .tax [0xAA#8] 2 { s with x := s.a, p := { s.p with n := (s.a).getLsbD 7, z := decide (s.a = 0#8) } } ∧
  RunsAs s .tay [0xA8#8] 2 { s with y := s.a, p := { s.p with n := (s.a).getLsbD 7, z := decide (s.a = 0#8) } } ∧
  RunsAs s .txa [0x8A#8] 2 { s with a := s.x, p := { s.p with n := (s.x).getLsbD 7, z := decide (s.x = 0#8) } } ∧
  RunsAs s .tya [0x98#8] 2 { s with a := s.y, p := { s.p with n := (s.y).getLsbD 7, z := decide (s.y = 0#8) } } ∧
  RunsAs s .tsx [0xBA#8] 2 { s with x := s.sp, p := { s.p with n := (s.sp).getLsbD 7, z := decide (s.sp = 0#8) } } ∧
  RunsAs s .txs [0x9A#8] 2 { s with sp := s.x }

/-- PHA writes A, and PHP the materialized status with bit 4 set, at 0x0100+S and lowers S; PLA reads A at 0x0100+(S+1), with N and Z, and PLP takes the six flags from there; everything else is as before. Bit 4 of PHP is the spec's decision D10, PLA's flags its general knowledge G6. Bytes and cycles are the row of the opcode table, which the spec takes from general knowledge (log entry 8). Rests on 47_stack_flags_nop.md section 1, 92_eei_decisions.md D10. -/
def Obligations.StackInstructionsMoveAAndP : Prop :=
  ∀ s : State,
  let v := s.read (stackAddress (s.sp + 1#8))
  RunsAs s .pha [0x48#8] 3 { s with mem := s.mem.write (stackAddress s.sp) s.a, sp := s.sp - 1#8 } ∧
  RunsAs s .php [0x08#8] 3 { s with mem := s.mem.write (stackAddress s.sp) (s.p.pack true), sp := s.sp - 1#8 } ∧
  RunsAs s .pla [0x68#8] 4 { s with a := v, sp := s.sp + 1#8, p := { s.p with n := (v).getLsbD 7, z := decide (v = 0#8) } } ∧
  RunsAs s .plp [0x28#8] 4 { s with sp := s.sp + 1#8, p := { c := v.getLsbD 0, z := v.getLsbD 1, i := v.getLsbD 2, d := v.getLsbD 3, v := v.getLsbD 6, n := v.getLsbD 7 } }

/-- Each flag instruction completes with its flag cleared or set and everything else as before. The semantics are the spec's from general knowledge (G5, D21). Bytes and cycles are the row of the opcode table, which the spec takes from general knowledge (log entry 8). Rests on 47_stack_flags_nop.md section 2, 92_eei_decisions.md D21. -/
def Obligations.FlagInstructionsWriteOneFlag : Prop :=
  ∀ s : State,
  RunsAs s .clc [0x18#8] 2 { s with p := { s.p with c := false } } ∧
  RunsAs s .sec [0x38#8] 2 { s with p := { s.p with c := true } } ∧
  RunsAs s .cli [0x58#8] 2 { s with p := { s.p with i := false } } ∧
  RunsAs s .sei [0x78#8] 2 { s with p := { s.p with i := true } } ∧
  RunsAs s .clv [0xB8#8] 2 { s with p := { s.p with v := false } } ∧
  RunsAs s .cld [0xD8#8] 2 { s with p := { s.p with d := false } } ∧
  RunsAs s .sed [0xF8#8] 2 { s with p := { s.p with d := true } }

/-- Each of the 28 NOP rows completes with the state as it was (PC is already past the instruction). Bytes and cycles are the row of the opcode table, which the spec takes from general knowledge (log entry 8). Rests on 47_stack_flags_nop.md section 3, 49_undocumented.md section 6 (NOP), 92_eei_decisions.md D22. -/
def Obligations.NopsChangeNothing : Prop :=
  ∀ (s : State) (i z : Byte) (w : Word),
  RunsAs s (.nopZp04 z) [0x04#8, z] 3 s ∧
  RunsAs s (.nopAbs w) [0x0C#8, lo w, hi w] 4 s ∧
  RunsAs s (.nopZpX14 z) [0x14#8, z] 4 s ∧
  RunsAs s .nop1A [0x1A#8] 2 s ∧
  RunsAs s (.nopAbsX1C w) [0x1C#8, lo w, hi w] 4 s ∧
  RunsAs s (.nopZpX34 z) [0x34#8, z] 4 s ∧
  RunsAs s .nop3A [0x3A#8] 2 s ∧
  RunsAs s (.nopAbsX3C w) [0x3C#8, lo w, hi w] 4 s ∧
  RunsAs s (.nopZp44 z) [0x44#8, z] 3 s ∧
  RunsAs s (.nopZpX54 z) [0x54#8, z] 4 s ∧
  RunsAs s .nop5A [0x5A#8] 2 s ∧
  RunsAs s (.nopAbsX5C w) [0x5C#8, lo w, hi w] 4 s ∧
  RunsAs s (.nopZp64 z) [0x64#8, z] 3 s ∧
  RunsAs s (.nopZpX74 z) [0x74#8, z] 4 s ∧
  RunsAs s .nop7A [0x7A#8] 2 s ∧
  RunsAs s (.nopAbsX7C w) [0x7C#8, lo w, hi w] 4 s ∧
  RunsAs s (.nopImm80 i) [0x80#8, i] 2 s ∧
  RunsAs s (.nopImm82 i) [0x82#8, i] 2 s ∧
  RunsAs s (.nopImm89 i) [0x89#8, i] 2 s ∧
  RunsAs s (.nopImmC2 i) [0xC2#8, i] 2 s ∧
  RunsAs s (.nopZpXD4 z) [0xD4#8, z] 4 s ∧
  RunsAs s .nopDA [0xDA#8] 2 s ∧
  RunsAs s (.nopAbsXDC w) [0xDC#8, lo w, hi w] 4 s ∧
  RunsAs s (.nopImmE2 i) [0xE2#8, i] 2 s ∧
  RunsAs s .nop [0xEA#8] 2 s ∧
  RunsAs s (.nopZpXF4 z) [0xF4#8, z] 4 s ∧
  RunsAs s .nopFA [0xFA#8] 2 s ∧
  RunsAs s (.nopAbsXFC w) [0xFC#8, lo w, hi w] 4 s

/-- JMP absolute completes with PC the address; JMP indirect with PC the byte at the pointer and, as high byte, the byte at pointer + 1 mod 2^16, or inside the pointer's page where JMP_IND_PAGE_WRAP is set; nothing else changes. The parameter is the spec's decision D9. Bytes and cycles are the row of the opcode table, which the spec takes from general knowledge (log entry 8). Rests on 48_control_flow.md section 1 (JMP), 40_addressing_modes.md section 1 (Indirect), 92_eei_decisions.md D9. -/
def Obligations.JumpsSetPc : Prop :=
  ∀ (s : State) (w : Word),
  let second := if s.config.jmpIndPageWrap then (w &&& 0xFF00#16) ||| ((w + 1) &&& 0x00FF#16) else w + 1
  RunsAs s (.jmpAbs w) [0x4C#8, lo w, hi w] 3 { s with pc := w } ∧
  RunsAs s (.jmpInd w) [0x6C#8, lo w, hi w] 5 { s with pc := joinWord (s.read second) (s.read w) }

/-- JSR completes with the high and low bytes of PC - 1 (PC past the instruction) at 0x0100+S and 0x0100+S-1, S lowered by 2 and PC the target; RTS completes with PC one more, mod 2^16, than the word whose low byte is at 0x0100+S+1 and high byte at 0x0100+S+2, and S raised by 2; everything else is as before. Bytes and cycles are the row of the opcode table, which the spec takes from general knowledge (log entry 8). Rests on 48_control_flow.md section 1 (JSR, RTS), 92_eei_decisions.md D19. -/
def Obligations.SubroutineCallAndReturn : Prop :=
  ∀ (s : State) (w : Word),
  RunsAs s (.jsrAbs w) [0x20#8, lo w, hi w] 6 { s with pc := w, sp := s.sp - 2#8, mem := (s.mem.write (stackAddress s.sp) (hi (s.pc - 1#16))).write (stackAddress (s.sp - 1#8)) (lo (s.pc - 1#16)) } ∧
  RunsAs s .rts [0x60#8] 6 { s with sp := s.sp + 2#8, pc := joinWord (s.read (stackAddress (s.sp + 2#8))) (s.read (stackAddress (s.sp + 1#8))) + 1 }

/-- From every state, the meaning of JSR and then that of RTS complete with PC the address of the byte after the JSR, S as it was, and A, X, Y, P as they were; only the two stack bytes of memory may differ. Rests on 48_control_flow.md section 1, 95_test_vectors.md E5. -/
def Obligations.ReturnComesBackAfterTheCall : Prop :=
  ∀ (s : State) (target : Word), ∃ s1 s2 : State, exec (.jsrAbs target) s = .next s1 ∧ s1.pc = target ∧
    exec .rts s1 = .next s2 ∧ s2 = { s with mem := s1.mem } ∧
    ∀ a : Word, a ≠ stackAddress s.sp → a ≠ stackAddress (s.sp - 1#8) → s2.read a = s.read a

/-- Each branch completes: if its flag has the value it tests, PC is PC (past the branch) plus the sign-extended offset mod 2^16; otherwise PC is unchanged; no flag and nothing else changes, and the cycle count is 2 either way. Bytes and cycles are the row of the opcode table, which the spec takes from general knowledge (log entry 8). Formalises R243, R244, R245, R246, R247, R248, R249, R250, R251. -/
def Obligations.BranchesAddTheSignedOffset : Prop :=
  ∀ (s : State) (o : Byte),
  let t := { s with pc := BitVec.ofInt 16 ((s.pc.toNat : Int) + o.toInt) }
  RunsAs s (.bcc o) [0x90#8, o] 2 (if s.p.c = false then t else s) ∧
  RunsAs s (.bcs o) [0xB0#8, o] 2 (if s.p.c = true then t else s) ∧
  RunsAs s (.beq o) [0xF0#8, o] 2 (if s.p.z = true then t else s) ∧
  RunsAs s (.bmi o) [0x30#8, o] 2 (if s.p.n = true then t else s) ∧
  RunsAs s (.bne o) [0xD0#8, o] 2 (if s.p.z = false then t else s) ∧
  RunsAs s (.bpl o) [0x10#8, o] 2 (if s.p.n = false then t else s) ∧
  RunsAs s (.bvc o) [0x50#8, o] 2 (if s.p.v = false then t else s) ∧
  RunsAs s (.bvs o) [0x70#8, o] 2 (if s.p.v = true then t else s)

/-- BRK completes whatever I holds: the bytes of PC + 1 (PC past the opcode), high then low, and the status with bits 5 and 4 set as it was before I is set, are written at 0x0100+S, 0x0100+S-1, 0x0100+S-2; S is lowered by 3, I is 1, PC is the word at 0xFFFE; A, X, Y, the other flags and every other byte are as before. Bytes and cycles are the row of the opcode table, which the spec takes from general knowledge (log entry 8). Rests on 48_control_flow.md section 3 (BRK), 92_eei_decisions.md D10, D20, D28. -/
def Obligations.BrkEntersTheInterruptSequence : Prop :=
  ∀ s : State,
  RunsAs s .brk [0x00#8] 7 { s with
      sp := s.sp - 3#8
      p := { s.p with i := true }
      pc := s.mem.readWord 0xFFFE#16
      mem := ((s.mem.write (stackAddress s.sp) (hi (s.pc + 1#16))).write (stackAddress (s.sp - 1#8)) (lo (s.pc + 1#16))).write
        (stackAddress (s.sp - 2#8)) (s.p.pack true) }

/-- RTI completes with the six flags from the byte at 0x0100+S+1 (bits 4 and 5 ignored), PC the word whose low byte is at 0x0100+S+2 and high byte at 0x0100+S+3, S raised by 3, and everything else as before. Bytes and cycles are the row of the opcode table, which the spec takes from general knowledge (log entry 8). Formalises R253. -/
def Obligations.RtiRestoresStatusAndPc : Prop :=
  ∀ s : State,
  let v := s.read (stackAddress (s.sp + 1#8))
  RunsAs s .rti [0x40#8] 6 { s with
      sp := s.sp + 3#8
      p := { c := v.getLsbD 0, z := v.getLsbD 1, i := v.getLsbD 2, d := v.getLsbD 3, v := v.getLsbD 6, n := v.getLsbD 7 }
      pc := joinWord (s.read (stackAddress (s.sp + 3#8))) (s.read (stackAddress (s.sp + 2#8))) }

/-- From every state: RTI after the entry through any vector ends with P, S and PC, and A, X, Y, as before the entry; RTI after BRK ends with them as before and PC one past the byte after the opcode. In both, only the three stack bytes at 0x0100+S, 0x0100+S-1 and 0x0100+S-2 may differ. Rests on 60_exceptions.md section 3, 48_control_flow.md section 3, 95_test_vectors.md E7. -/
def Obligations.RtiUndoesInterruptEntry : Prop :=
  ∀ (s : State) (vector : Word),
    (∃ t : State, exec .rti (s.interruptEntry vector) = .next t ∧ t = { s with mem := (s.interruptEntry vector).mem } ∧
      ∀ a : Word, a ≠ stackAddress s.sp → a ≠ stackAddress (s.sp - 1#8) → a ≠ stackAddress (s.sp - 2#8) →
        t.read a = s.read a) ∧
    (∃ u t : State, exec .brk s = .next u ∧ exec .rti u = .next t ∧ t = { s with pc := s.pc + 1#16, mem := u.mem } ∧
      ∀ a : Word, a ≠ stackAddress s.sp → a ≠ stackAddress (s.sp - 1#8) → a ≠ stackAddress (s.sp - 2#8) →
        t.read a = s.read a)

/-- Each SLO, RLA and SRE completes: the byte at the address is shifted left, rotated left through C, or shifted right, and written back; A is or-ed, and-ed, exclusive or-ed with it; C is the bit shifted out, N and Z are of A; everything else is as before. The composition is the spec's from general knowledge (G9, D21). Bytes and cycles are the row of the opcode table, which the spec takes from general knowledge (log entry 8). Rests on 49_undocumented.md section 2 (SLO, RLA, SRE), 92_eei_decisions.md D18, D21. -/
def Obligations.ShiftAndCombineComposites : Prop :=
  ∀ (s : State) (z : Byte) (w : Word),
  let slo := fun (a : Word) =>
    let m := s.read a
    let r := m <<< 1
    { s with mem := s.mem.write a r, a := s.a ||| r, p := { s.p with c := m.getLsbD 7, n := (s.a ||| r).getLsbD 7, z := decide ((s.a ||| r) = 0#8) } }
  let rla := fun (a : Word) =>
    let m := s.read a
    let r := (m <<< 1) ||| (if s.p.c then 0x01#8 else 0x00#8)
    { s with mem := s.mem.write a r, a := s.a &&& r, p := { s.p with c := m.getLsbD 7, n := (s.a &&& r).getLsbD 7, z := decide ((s.a &&& r) = 0#8) } }
  let sre := fun (a : Word) =>
    let m := s.read a
    let r := m >>> 1
    { s with mem := s.mem.write a r, a := s.a ^^^ r, p := { s.p with c := m.getLsbD 0, n := (s.a ^^^ r).getLsbD 7, z := decide ((s.a ^^^ r) = 0#8) } }
  RunsAs s (.sloIndX z) [0x03#8, z] 8 (slo (s.eaIndX z)) ∧
  RunsAs s (.sloZp z) [0x07#8, z] 5 (slo (eaZp z)) ∧
  RunsAs s (.sloAbs w) [0x0F#8, lo w, hi w] 6 (slo (eaAbs w)) ∧
  RunsAs s (.sloIndY z) [0x13#8, z] 8 (slo (s.eaIndY z)) ∧
  RunsAs s (.sloZpX z) [0x17#8, z] 6 (slo (s.eaZpX z)) ∧
  RunsAs s (.sloAbsY w) [0x1B#8, lo w, hi w] 7 (slo (s.eaAbsY w)) ∧
  RunsAs s (.sloAbsX w) [0x1F#8, lo w, hi w] 7 (slo (s.eaAbsX w)) ∧
  RunsAs s (.rlaIndX z) [0x23#8, z] 8 (rla (s.eaIndX z)) ∧
  RunsAs s (.rlaZp z) [0x27#8, z] 5 (rla (eaZp z)) ∧
  RunsAs s (.rlaAbs w) [0x2F#8, lo w, hi w] 6 (rla (eaAbs w)) ∧
  RunsAs s (.rlaIndY z) [0x33#8, z] 8 (rla (s.eaIndY z)) ∧
  RunsAs s (.rlaZpX z) [0x37#8, z] 6 (rla (s.eaZpX z)) ∧
  RunsAs s (.rlaAbsY w) [0x3B#8, lo w, hi w] 7 (rla (s.eaAbsY w)) ∧
  RunsAs s (.rlaAbsX w) [0x3F#8, lo w, hi w] 7 (rla (s.eaAbsX w)) ∧
  RunsAs s (.sreIndX z) [0x43#8, z] 8 (sre (s.eaIndX z)) ∧
  RunsAs s (.sreZp z) [0x47#8, z] 5 (sre (eaZp z)) ∧
  RunsAs s (.sreAbs w) [0x4F#8, lo w, hi w] 6 (sre (eaAbs w)) ∧
  RunsAs s (.sreIndY z) [0x53#8, z] 8 (sre (s.eaIndY z)) ∧
  RunsAs s (.sreZpX z) [0x57#8, z] 6 (sre (s.eaZpX z)) ∧
  RunsAs s (.sreAbsY w) [0x5B#8, lo w, hi w] 7 (sre (s.eaAbsY w)) ∧
  RunsAs s (.sreAbsX w) [0x5F#8, lo w, hi w] 7 (sre (s.eaAbsX w))

/-- Each RRA completes with memory rotated right through C and A the sum of A, the result and the carry the rotate produced; each DCP with memory one less mod 256 and the flags of comparing A with it; each ISC with memory one more mod 256 and A less it with borrow; flags as ADC, CMP and SBC give them; everything else is as before. The composition is the spec's from general knowledge (G9, D21). Bytes and cycles are the row of the opcode table, which the spec takes from general knowledge (log entry 8). Rests on 49_undocumented.md section 2 (RRA, DCP, ISC), 92_eei_decisions.md D7, D18, D21. -/
def Obligations.RotateAddAndStepCompareComposites : Prop :=
  ∀ (s : State) (z : Byte) (w : Word),
  let rra := fun (a : Word) =>
    let m := s.read a
    let r := (m >>> 1) ||| (if s.p.c then 0x80#8 else 0x00#8)
    let sum := s.a.toNat + (r).toNat + (m.getLsbD 0).toNat
    let n := BitVec.ofNat 8 sum
    { s with mem := s.mem.write a r, a := n, p := { s.p with
      c := decide (sum > 0xFF)
      v := decide ((~~~(s.a ^^^ r) &&& (s.a ^^^ n) &&& 0x80#8) ≠ 0#8)
      n := n.getLsbD 7
      z := decide (n = 0#8) } }
  let dcp := fun (a : Word) =>
    let r := s.read a - 1
    { s with mem := s.mem.write a r, p := { s.p with
      n := (s.a - r).getLsbD 7, z := decide (s.a = r), c := decide (r.toNat ≤ s.a.toNat) } }
  let isc := fun (a : Word) =>
    let r := s.read a + 1
    let sum := s.a.toNat + (~~~r).toNat + s.p.c.toNat
    let n := BitVec.ofNat 8 sum
    { s with mem := s.mem.write a r, a := n, p := { s.p with
      c := decide (sum > 0xFF)
      v := decide ((~~~(s.a ^^^ ~~~r) &&& (s.a ^^^ n) &&& 0x80#8) ≠ 0#8)
      n := n.getLsbD 7
      z := decide (n = 0#8) } }
  RunsAs s (.rraIndX z) [0x63#8, z] 8 (rra (s.eaIndX z)) ∧
  RunsAs s (.rraZp z) [0x67#8, z] 5 (rra (eaZp z)) ∧
  RunsAs s (.rraAbs w) [0x6F#8, lo w, hi w] 6 (rra (eaAbs w)) ∧
  RunsAs s (.rraIndY z) [0x73#8, z] 8 (rra (s.eaIndY z)) ∧
  RunsAs s (.rraZpX z) [0x77#8, z] 6 (rra (s.eaZpX z)) ∧
  RunsAs s (.rraAbsY w) [0x7B#8, lo w, hi w] 7 (rra (s.eaAbsY w)) ∧
  RunsAs s (.rraAbsX w) [0x7F#8, lo w, hi w] 7 (rra (s.eaAbsX w)) ∧
  RunsAs s (.dcpIndX z) [0xC3#8, z] 8 (dcp (s.eaIndX z)) ∧
  RunsAs s (.dcpZp z) [0xC7#8, z] 5 (dcp (eaZp z)) ∧
  RunsAs s (.dcpAbs w) [0xCF#8, lo w, hi w] 6 (dcp (eaAbs w)) ∧
  RunsAs s (.dcpIndY z) [0xD3#8, z] 8 (dcp (s.eaIndY z)) ∧
  RunsAs s (.dcpZpX z) [0xD7#8, z] 6 (dcp (s.eaZpX z)) ∧
  RunsAs s (.dcpAbsY w) [0xDB#8, lo w, hi w] 7 (dcp (s.eaAbsY w)) ∧
  RunsAs s (.dcpAbsX w) [0xDF#8, lo w, hi w] 7 (dcp (s.eaAbsX w)) ∧
  RunsAs s (.iscIndX z) [0xE3#8, z] 8 (isc (s.eaIndX z)) ∧
  RunsAs s (.iscZp z) [0xE7#8, z] 5 (isc (eaZp z)) ∧
  RunsAs s (.iscAbs w) [0xEF#8, lo w, hi w] 6 (isc (eaAbs w)) ∧
  RunsAs s (.iscIndY z) [0xF3#8, z] 8 (isc (s.eaIndY z)) ∧
  RunsAs s (.iscZpX z) [0xF7#8, z] 6 (isc (s.eaZpX z)) ∧
  RunsAs s (.iscAbsY w) [0xFB#8, lo w, hi w] 7 (isc (s.eaAbsY w)) ∧
  RunsAs s (.iscAbsX w) [0xFF#8, lo w, hi w] 7 (isc (s.eaAbsX w))

/-- Each LAX completes with A and X the byte, N and Z of it; each SAX with A & X written at the address and no flag; LAS with A, X and S the byte and-ed with S, N and Z of that; everything else is as before. The composition is the spec's from general knowledge (G9, D21). Bytes and cycles are the row of the opcode table, which the spec takes from general knowledge (log entry 8). Rests on 49_undocumented.md sections 3 and 4 (LAX, SAX, LAS), 92_eei_decisions.md D21. -/
def Obligations.LoadAndStoreComposites : Prop :=
  ∀ (s : State) (z : Byte) (w : Word),
  let lax := fun (m : Byte) => { s with a := m, x := m, p := { s.p with n := (m).getLsbD 7, z := decide (m = 0#8) } }
  let sax := fun (a : Word) => { s with mem := s.mem.write a (s.a &&& s.x) }
  let las := fun (m : Byte) =>
    let v := m &&& s.sp
    { s with a := v, x := v, sp := v, p := { s.p with n := (v).getLsbD 7, z := decide (v = 0#8) } }
  RunsAs s (.laxIndX z) [0xA3#8, z] 6 (lax (s.read (s.eaIndX z))) ∧
  RunsAs s (.laxZp z) [0xA7#8, z] 3 (lax (s.read (eaZp z))) ∧
  RunsAs s (.laxAbs w) [0xAF#8, lo w, hi w] 4 (lax (s.read (eaAbs w))) ∧
  RunsAs s (.laxIndY z) [0xB3#8, z] 5 (lax (s.read (s.eaIndY z))) ∧
  RunsAs s (.laxZpY z) [0xB7#8, z] 4 (lax (s.read (s.eaZpY z))) ∧
  RunsAs s (.laxAbsY w) [0xBF#8, lo w, hi w] 4 (lax (s.read (s.eaAbsY w))) ∧
  RunsAs s (.saxIndX z) [0x83#8, z] 6 (sax (s.eaIndX z)) ∧
  RunsAs s (.saxZp z) [0x87#8, z] 3 (sax (eaZp z)) ∧
  RunsAs s (.saxAbs w) [0x8F#8, lo w, hi w] 4 (sax (eaAbs w)) ∧
  RunsAs s (.saxZpY z) [0x97#8, z] 4 (sax (s.eaZpY z)) ∧
  RunsAs s (.lasAbsY w) [0xBB#8, lo w, hi w] 4 (las (s.read (s.eaAbsY w)))

/-- ANC: A & m, C its bit 7. ALR: (A & m) shifted right, C the bit that left. ARR: (A & m) rotated right through C, C bit 6 of the result and V bit 6 xor bit 5. ANE: (A | ANE_CONST) & X & m into A. LXA: (A | LXA_CONST) & m into A and X. SBX: X is (A & X) - m mod 256, C where there is no borrow. N and Z are of the result each time; everything else is as before. The constants are the parameters of D16. The composition is the spec's from general knowledge (G9, D21). Bytes and cycles are the row of the opcode table, which the spec takes from general knowledge (log entry 8). Rests on 49_undocumented.md section 4, 92_eei_decisions.md D7, D16, D21. -/
def Obligations.ImmediateComposites : Prop :=
  ∀ (s : State) (i : Byte),
  let ax := s.a &&& s.x
  let t := s.a &&& i
  let r := (t >>> 1) ||| (if s.p.c then 0x80#8 else 0x00#8)
  let e := (s.a ||| s.config.aneConst) &&& s.x &&& i
  let l := (s.a ||| s.config.lxaConst) &&& i
  RunsAs s (.ancImm0B i) [0x0B#8, i] 2 { s with a := t, p := { s.p with c := t.getLsbD 7, n := (t).getLsbD 7, z := decide (t = 0#8) } } ∧
  RunsAs s (.ancImm2B i) [0x2B#8, i] 2 { s with a := t, p := { s.p with c := t.getLsbD 7, n := (t).getLsbD 7, z := decide (t = 0#8) } } ∧
  RunsAs s (.alrImm i) [0x4B#8, i] 2 { s with a := t >>> 1, p := { s.p with c := t.getLsbD 0, n := (t >>> 1).getLsbD 7, z := decide (t >>> 1 = 0#8) } } ∧
  RunsAs s (.arrImm i) [0x6B#8, i] 2 { s with a := r, p := { s.p with c := r.getLsbD 6, v := (r.getLsbD 6) ^^ (r.getLsbD 5), n := (r).getLsbD 7, z := decide (r = 0#8) } } ∧
  RunsAs s (.aneImm i) [0x8B#8, i] 2 { s with a := e, p := { s.p with n := (e).getLsbD 7, z := decide (e = 0#8) } } ∧
  RunsAs s (.lxaImm i) [0xAB#8, i] 2 { s with a := l, x := l, p := { s.p with n := (l).getLsbD 7, z := decide (l = 0#8) } } ∧
  RunsAs s (.sbxImm i) [0xCB#8, i] 2 { s with x := ax - i, p := { s.p with c := decide (i.toNat ≤ ax.toNat), n := (ax - i).getLsbD 7, z := decide (ax - i = 0#8) } }

/-- With H the high byte of the unindexed base and v the register value and-ed with H + 1 mod 256: v is written at the indexed address, or, where its high byte is not H, at the address whose high byte is v and low byte the indexed one's. The register value is A & X for SHA, X for SHX, Y for SHY; TAS first sets S to A & X and uses it. No flag and nothing else changes. The rule is the spec's decision D17. Bytes and cycles are the row of the opcode table, which the spec takes from general knowledge (log entry 8). Rests on 49_undocumented.md section 5, 92_eei_decisions.md D17. -/
def Obligations.HighByteStores : Prop :=
  ∀ (s : State) (z : Byte) (w : Word),
  let st := fun (rv : Byte) (base ea : Word) =>
    let v := rv &&& (hi base + 1)
    { s with mem := s.mem.write (if hi ea = hi base then ea else joinWord v (lo ea)) v }
  RunsAs s (.shaIndY z) [0x93#8, z] 6 (st (s.a &&& s.x) (s.mem.readPointer z) (s.eaIndY z)) ∧
  RunsAs s (.shaAbsY w) [0x9F#8, lo w, hi w] 5 (st (s.a &&& s.x) w (s.eaAbsY w)) ∧
  RunsAs s (.shyAbsX w) [0x9C#8, lo w, hi w] 5 (st s.y w (s.eaAbsX w)) ∧
  RunsAs s (.shxAbsY w) [0x9E#8, lo w, hi w] 5 (st s.x w (s.eaAbsY w)) ∧
  RunsAs s (.tasAbsY w) [0x9B#8, lo w, hi w] 5 { st (s.a &&& s.x) w (s.eaAbsY w) with sp := s.a &&& s.x }

/-- Each JAM row completes with halted set, PC past the opcode and no register, flag or memory byte changed; its cycle count is JAM_CYCLES. The halt is the spec's decision D15. Bytes and cycles are the row of the opcode table, which the spec takes from general knowledge (log entry 8). Rests on 49_undocumented.md section 6 (JAM), 92_eei_decisions.md D15. -/
def Obligations.JamHaltsTheCore : Prop :=
  ∀ s : State,
  RunsAs s .jam02 [0x02#8] s.config.jamCycles { s with halted := true } ∧
  RunsAs s .jam12 [0x12#8] s.config.jamCycles { s with halted := true } ∧
  RunsAs s .jam22 [0x22#8] s.config.jamCycles { s with halted := true } ∧
  RunsAs s .jam32 [0x32#8] s.config.jamCycles { s with halted := true } ∧
  RunsAs s .jam42 [0x42#8] s.config.jamCycles { s with halted := true } ∧
  RunsAs s .jam52 [0x52#8] s.config.jamCycles { s with halted := true } ∧
  RunsAs s .jam62 [0x62#8] s.config.jamCycles { s with halted := true } ∧
  RunsAs s .jam72 [0x72#8] s.config.jamCycles { s with halted := true } ∧
  RunsAs s .jam92 [0x92#8] s.config.jamCycles { s with halted := true } ∧
  RunsAs s .jamB2 [0xB2#8] s.config.jamCycles { s with halted := true } ∧
  RunsAs s .jamD2 [0xD2#8] s.config.jamCycles { s with halted := true } ∧
  RunsAs s .jamF2 [0xF2#8] s.config.jamCycles { s with halted := true }

/-- For the modes both have (zero page, zero page X, absolute, absolute X): SLO is ASL then ORA, RLA is ROL then AND, SRE is LSR then EOR, RRA is ROR then ADC, DCP is DEC then CMP, ISC is INC then SBC at the same operand; LAX, in the modes LDA has, is LDA then TAX; ALR is AND then LSR A; with the default constants ANE is TXA then AND and LXA is LDA then TAX; SBC 0xEB is SBC 0xE9. Rests on 49_undocumented.md sections 1 and 2, 49_undocumented.md section 3 (LAX), 49_undocumented.md section 4 (ALR, ANE, LXA), 49_undocumented.md section 6 (SBC 0xEB), 92_eei_decisions.md D16, D18, D21. -/
def Obligations.CompositesEqualTheirTwoInstructions : Prop :=
  ∀ (s : State) (i z : Byte) (w : Word),
  let sequence := fun (both first second : Instr) => ∃ s1 s2 : State,
    exec first s = .next s1 ∧ exec second s1 = .next s2 ∧ exec both s = .next s2
  sequence (.sloZp z) (.aslZp z) (.oraZp z) ∧
  sequence (.sloZpX z) (.aslZpX z) (.oraZpX z) ∧
  sequence (.sloAbs w) (.aslAbs w) (.oraAbs w) ∧
  sequence (.sloAbsX w) (.aslAbsX w) (.oraAbsX w) ∧
  sequence (.rlaZp z) (.rolZp z) (.andZp z) ∧
  sequence (.rlaZpX z) (.rolZpX z) (.andZpX z) ∧
  sequence (.rlaAbs w) (.rolAbs w) (.andAbs w) ∧
  sequence (.rlaAbsX w) (.rolAbsX w) (.andAbsX w) ∧
  sequence (.sreZp z) (.lsrZp z) (.eorZp z) ∧
  sequence (.sreZpX z) (.lsrZpX z) (.eorZpX z) ∧
  sequence (.sreAbs w) (.lsrAbs w) (.eorAbs w) ∧
  sequence (.sreAbsX w) (.lsrAbsX w) (.eorAbsX w) ∧
  sequence (.rraZp z) (.rorZp z) (.adcZp z) ∧
  sequence (.rraZpX z) (.rorZpX z) (.adcZpX z) ∧
  sequence (.rraAbs w) (.rorAbs w) (.adcAbs w) ∧
  sequence (.rraAbsX w) (.rorAbsX w) (.adcAbsX w) ∧
  sequence (.dcpZp z) (.decZp z) (.cmpZp z) ∧
  sequence (.dcpZpX z) (.decZpX z) (.cmpZpX z) ∧
  sequence (.dcpAbs w) (.decAbs w) (.cmpAbs w) ∧
  sequence (.dcpAbsX w) (.decAbsX w) (.cmpAbsX w) ∧
  sequence (.iscZp z) (.incZp z) (.sbcZp z) ∧
  sequence (.iscZpX z) (.incZpX z) (.sbcZpX z) ∧
  sequence (.iscAbs w) (.incAbs w) (.sbcAbs w) ∧
  sequence (.iscAbsX w) (.incAbsX w) (.sbcAbsX w) ∧
  sequence (.laxZp z) (.ldaZp z) .tax ∧
  sequence (.laxAbs w) (.ldaAbs w) .tax ∧
  sequence (.laxAbsY w) (.ldaAbsY w) .tax ∧
  sequence (.laxIndX z) (.ldaIndX z) .tax ∧
  sequence (.laxIndY z) (.ldaIndY z) .tax ∧
  sequence (.alrImm i) (.andImm i) .lsrAcc ∧
  (s.config.aneConst = 0xFF#8 → sequence (.aneImm i) .txa (.andImm i)) ∧
  (s.config.lxaConst = 0xFF#8 → sequence (.lxaImm i) (.ldaImm i) .tax) ∧
  exec (.sbcImmEB i) s = exec (.sbcImm i) s

/-- From every state, nine ROL A in a row leave A and C as they were, and ROL A followed by ROR A leaves A and C as they were. Rests on 43_shift_rotate.md (ROL, corner cases). -/
def Obligations.NineRotatesComeBack : Prop :=
  ∀ s : State,
    (∃ t : State, (List.replicate 9 Instr.rolAcc).foldl (fun r i => match r with | .next u => exec i u | other => other)
        (Host.Outcome.next s) = .next t ∧ t.a = s.a ∧ t.p.c = s.p.c) ∧
    (∃ u t : State, exec .rolAcc s = .next u ∧ exec .rorAcc u = .next t ∧ t.a = s.a ∧ t.p.c = s.p.c)

/-- For absolute Y, (Indirect,X) and (Indirect),Y, with the effective address computed before the instruction: SLO is ASL then ORA, RLA is ROL then AND, SRE is LSR then EOR, RRA is ROR then ADC, DCP is DEC then CMP, ISC is INC then SBC, each in absolute mode at that address; LAX zero page Y is LDA absolute at its address, then TAX. All complete, and the states are the same. Rests on 49_undocumented.md sections 1 and 2, 49_undocumented.md section 3 (LAX), 40_addressing_modes.md section 1, 92_eei_decisions.md D18, D21. -/
def Obligations.CompositesInUndocumentedModesEqualTheirTwoInstructions : Prop :=
  ∀ (s : State) (z : Byte) (w : Word),
  let sequence := fun (both first second : Instr) => ∃ s1 s2 : State,
    exec first s = .next s1 ∧ exec second s1 = .next s2 ∧ exec both s = .next s2
  sequence (.sloAbsY w) (.aslAbs (s.eaAbsY w)) (.oraAbs (s.eaAbsY w)) ∧
  sequence (.sloIndX z) (.aslAbs (s.eaIndX z)) (.oraAbs (s.eaIndX z)) ∧
  sequence (.sloIndY z) (.aslAbs (s.eaIndY z)) (.oraAbs (s.eaIndY z)) ∧
  sequence (.rlaAbsY w) (.rolAbs (s.eaAbsY w)) (.andAbs (s.eaAbsY w)) ∧
  sequence (.rlaIndX z) (.rolAbs (s.eaIndX z)) (.andAbs (s.eaIndX z)) ∧
  sequence (.rlaIndY z) (.rolAbs (s.eaIndY z)) (.andAbs (s.eaIndY z)) ∧
  sequence (.sreAbsY w) (.lsrAbs (s.eaAbsY w)) (.eorAbs (s.eaAbsY w)) ∧
  sequence (.sreIndX z) (.lsrAbs (s.eaIndX z)) (.eorAbs (s.eaIndX z)) ∧
  sequence (.sreIndY z) (.lsrAbs (s.eaIndY z)) (.eorAbs (s.eaIndY z)) ∧
  sequence (.rraAbsY w) (.rorAbs (s.eaAbsY w)) (.adcAbs (s.eaAbsY w)) ∧
  sequence (.rraIndX z) (.rorAbs (s.eaIndX z)) (.adcAbs (s.eaIndX z)) ∧
  sequence (.rraIndY z) (.rorAbs (s.eaIndY z)) (.adcAbs (s.eaIndY z)) ∧
  sequence (.dcpAbsY w) (.decAbs (s.eaAbsY w)) (.cmpAbs (s.eaAbsY w)) ∧
  sequence (.dcpIndX z) (.decAbs (s.eaIndX z)) (.cmpAbs (s.eaIndX z)) ∧
  sequence (.dcpIndY z) (.decAbs (s.eaIndY z)) (.cmpAbs (s.eaIndY z)) ∧
  sequence (.iscAbsY w) (.incAbs (s.eaAbsY w)) (.sbcAbs (s.eaAbsY w)) ∧
  sequence (.iscIndX z) (.incAbs (s.eaIndX z)) (.sbcAbs (s.eaIndX z)) ∧
  sequence (.iscIndY z) (.incAbs (s.eaIndY z)) (.sbcAbs (s.eaIndY z)) ∧
  sequence (.laxZpY z) (.ldaAbs (s.eaZpY z)) .tax
end

