-- ==== Sys2Proof/Laws/Bits.lean ====
section
/-! SUPPORT. The byte-order helpers and the stack's addresses, and the status byte. -/

namespace Sys2Proof

theorem joinWord_toNat (h l : Byte) : (joinWord h l).toNat = 256 * h.toNat + l.toNat := by
  have hl := l.isLt
  simp only [joinWord, BitVec.toNat_append]
  rw [← Nat.shiftLeft_add_eq_or_of_lt hl, Nat.shiftLeft_eq]
  omega

theorem lo_toNat (w : Word) : (lo w).toNat = w.toNat % 256 := by simp [lo]

theorem hi_toNat (w : Word) : (hi w).toNat = w.toNat / 256 := by
  have := w.isLt
  simp [hi, Nat.shiftRight_eq_div_pow]
  omega

@[simp] theorem lo_joinWord (h l : Byte) : lo (joinWord h l) = l := by
  have := l.isLt
  apply BitVec.eq_of_toNat_eq
  rw [lo_toNat, joinWord_toNat]
  omega

@[simp] theorem hi_joinWord (h l : Byte) : hi (joinWord h l) = h := by
  have := l.isLt
  apply BitVec.eq_of_toNat_eq
  rw [hi_toNat, joinWord_toNat]
  omega

@[simp] theorem joinWord_hi_lo (w : Word) : joinWord (hi w) (lo w) = w := by
  apply BitVec.eq_of_toNat_eq
  rw [joinWord_toNat, lo_toNat, hi_toNat]
  omega

namespace Machine

/-- Distinct values of S designate distinct stack bytes (R33). -/
theorem stackAddress_inj (a b : Byte) : stackAddress a = stackAddress b ↔ a = b := by
  constructor
  · intro h
    have := congrArg lo h
    simpa [stackAddress] using this
  · rintro rfl
    rfl

theorem stackAddress_toNat (sp : Byte) : (stackAddress sp).toNat = 256 + sp.toNat := by
  simp [stackAddress, joinWord_toNat]

/-- The vectors are not in the stack page (R72). -/
theorem stackAddress_ne_of_ge (sp : Byte) (a : Word) (h : 512 ≤ a.toNat) : a ≠ stackAddress sp := by
  intro e
  have h1 := stackAddress_toNat sp
  have h2 := sp.isLt
  rw [← e] at h1
  omega

@[simp] theorem Flags.unpack_pack (p : Flags) (b : Bool) : Flags.unpack (p.pack b) = p := by
  rcases p with ⟨c, z, i, d, v, n⟩
  revert c z i d v n b
  decide

theorem Flags.pack_bit_five (p : Flags) (b : Bool) : (p.pack b).getLsbD 5 = true := by
  rcases p with ⟨c, z, i, d, v, n⟩
  revert c z i d v n b
  decide

@[simp] theorem Flags.setNZ_eq (p : Flags) (v : Byte) :
    p.setNZ v = { p with n := v.getLsbD 7, z := decide (v = 0#8) } := rfl

end Machine

end Sys2Proof
end

