-- ==== Sys2Proof/Laws/Decode.lean ====
section
/-! SUPPORT. The decoder's table against the encoder's: an instruction read from an opcode byte has that opcode and the operand bytes its format takes, and its mode is the opcode's alone. -/

namespace Sys2Proof

theorem Mode.operandCount_cases (m : Mode) : m.operandCount = 0 ∨ m.operandCount = 1 ∨ m.operandCount = 2 := by
  cases m <;> decide

/-- The operand a mode takes from the two bytes after the opcode (R91, R92). -/
def Mode.operandsOf (m : Mode) (b1 b2 : Byte) : Operands :=
  match m.operandCount with
  | 0 => .none
  | 1 => .byte b1
  | _ => .word (joinWord b2 b1)

/-- A byte is one of the 256 numerals. -/
theorem exists_numeral (b : Byte) : ∃ n, n < 256 ∧ b = BitVec.ofNat 8 n := ⟨b.toNat, b.isLt, by simp⟩

theorem decodeOpcode_opcode (b1 b2 : Byte) : ∀ op, (decodeOpcode op b1 b2).opcode = op :=
  of_decide_eq_true (Eq.refl true)

theorem decodeOpcode_mode (b1 b2 : Byte) : ∀ op, (decodeOpcode op b1 b2).mode = (decodeOpcode op 0#8 0#8).mode :=
  of_decide_eq_true (Eq.refl true)

theorem decodeOpcode_mnemonic (b1 b2 : Byte) :
    ∀ op, (decodeOpcode op b1 b2).mnemonic = (decodeOpcode op 0#8 0#8).mnemonic :=
  of_decide_eq_true (Eq.refl true)

theorem decodeOpcode_operands (op b1 b2 : Byte) :
    (decodeOpcode op b1 b2).operands = (decodeOpcode op b1 b2).mode.operandsOf b1 b2 := by
  obtain ⟨n, hn, rfl⟩ := exists_numeral op
  interval_cases n <;> rfl

theorem encode_decodeOpcode (op b1 b2 : Byte) :
    encode (decodeOpcode op b1 b2) = op :: [b1, b2].take (decodeOpcode op 0#8 0#8).mode.operandCount := by
  rw [encode, decodeOpcode_opcode, decodeOpcode_operands, decodeOpcode_mode, Mode.operandsOf]
  rcases Mode.operandCount_cases (decodeOpcode op 0#8 0#8).mode with h | h | h <;> rw [h] <;> simp [Operands.bytes]

end Sys2Proof
end

