-- ==== Sys2Proof/Laws/Memory.lean ====
section
/-! SUPPORT. What the bus's read and write do (R61, R62), in every memory, and that a write keeps the canonical form. -/

namespace Sys2Proof.Machine

theorem Memory.lookup_insert_same (m : Memory) (a : Nat) (v : Byte) (h : ∀ c ∈ m, c.1 ≠ a) :
    (Memory.insert m a v).lookup a = v := by
  induction m with
  | nil => simp [Memory.insert, Memory.lookup]
  | cons c rest ih =>
    obtain ⟨k, w⟩ := c
    have hk : k ≠ a := h (k, w) (by simp)
    have hr := ih (fun c hc => h c (by simp [hc]))
    by_cases hlt : a < k <;> simp [Memory.insert, Memory.lookup, hlt, hk, hr]

theorem Memory.lookup_insert_ne (m : Memory) (a b : Nat) (v : Byte) (h : b ≠ a) :
    (Memory.insert m a v).lookup b = m.lookup b := by
  induction m with
  | nil => simp [Memory.insert, Memory.lookup, Ne.symm h]
  | cons c rest ih =>
    obtain ⟨k, w⟩ := c
    by_cases hlt : a < k <;> simp [Memory.insert, Memory.lookup, hlt, Ne.symm h, ih]

theorem Memory.lookup_erase_same (m : Memory) (a : Nat) : (m.erase a).lookup a = unlistedByte := by
  induction m with
  | nil => rfl
  | cons c rest ih =>
    obtain ⟨k, w⟩ := c
    by_cases hk : k = a
    · simpa [Memory.erase, hk] using ih
    · have : (k != a) = true := by simpa using hk
      simpa [Memory.erase, this, Memory.lookup, hk] using ih

theorem Memory.lookup_erase_ne (m : Memory) (a b : Nat) (h : b ≠ a) : (m.erase a).lookup b = m.lookup b := by
  induction m with
  | nil => rfl
  | cons c rest ih =>
    obtain ⟨k, w⟩ := c
    by_cases hk : k = a
    · subst hk
      simpa [Memory.erase, Memory.lookup, Ne.symm h] using ih
    · have : (k != a) = true := by simpa using hk
      simp only [Memory.erase, List.filter_cons, this, if_true, Memory.lookup]
      rw [← ih]
      rfl

theorem Memory.erase_ne_key (m : Memory) (a : Nat) : ∀ c ∈ m.erase a, c.1 ≠ a := by
  intro c hc
  simpa using (List.mem_filter.mp hc).2

/-- The byte just written is read (R62). -/
@[simp] theorem Memory.read_write_same (m : Memory) (a : Word) (v : Byte) : (m.write a v).read a = v := by
  by_cases hv : v = unlistedByte
  · simp [Memory.write, Memory.read, hv, Memory.lookup_erase_same]
  · simp [Memory.write, Memory.read, hv, Memory.lookup_insert_same _ _ _ (Memory.erase_ne_key m _)]

/-- A write leaves every other address as it was (R62). -/
theorem Memory.read_write_ne (m : Memory) (a b : Word) (v : Byte) (h : b ≠ a) : (m.write a v).read b = m.read b := by
  have hn : b.toNat ≠ a.toNat := fun e => h (BitVec.eq_of_toNat_eq e)
  by_cases hv : v = unlistedByte
  · simp [Memory.write, Memory.read, hv, Memory.lookup_erase_ne _ _ _ hn]
  · simp [Memory.write, Memory.read, hv, Memory.lookup_insert_ne _ _ _ _ hn, Memory.lookup_erase_ne _ _ _ hn]

theorem Memory.wfFrom_weaken (m : Memory) (low low' : Nat) (hle : low' ≤ low) (h : Memory.wfFrom low m = true) :
    Memory.wfFrom low' m = true := by
  cases m with
  | nil => rfl
  | cons c rest =>
    obtain ⟨k, v⟩ := c
    simp only [Memory.wfFrom, Bool.and_eq_true, decide_eq_true_eq] at h ⊢
    exact ⟨⟨⟨Nat.le_trans hle h.1.1.1, h.1.1.2⟩, h.1.2⟩, h.2⟩

theorem Memory.wfFrom_erase (m : Memory) (a low : Nat) (h : Memory.wfFrom low m = true) :
    Memory.wfFrom low (m.erase a) = true := by
  induction m generalizing low with
  | nil => rfl
  | cons c rest ih =>
    obtain ⟨k, v⟩ := c
    have h' := h
    simp only [Memory.wfFrom, Bool.and_eq_true, decide_eq_true_eq] at h'
    have hr := ih (k + 1) h'.2
    by_cases hk : k = a
    · have : (k != a) = false := by simp [hk]
      simpa [Memory.erase, this] using Memory.wfFrom_weaken _ _ low (by omega) hr
    · have : (k != a) = true := by simpa using hk
      have hr' : Memory.wfFrom (k + 1) (List.filter (fun cell => cell.1 != a) rest) = true := hr
      simp [Memory.erase, this, Memory.wfFrom, hr']
      simpa using h'.1

theorem Memory.wfFrom_insert (m : Memory) (a : Nat) (v : Byte) (low : Nat) (h : Memory.wfFrom low m = true)
    (hl : low ≤ a) (ha : a < 0x10000) (hv : v ≠ unlistedByte) (hne : ∀ c ∈ m, c.1 ≠ a) :
    Memory.wfFrom low (Memory.insert m a v) = true := by
  induction m generalizing low with
  | nil => simp [Memory.insert, Memory.wfFrom, hl, ha, hv]
  | cons c rest ih =>
    obtain ⟨k, w⟩ := c
    have h' := h
    simp only [Memory.wfFrom, Bool.and_eq_true, decide_eq_true_eq] at h'
    have hk : k ≠ a := hne (k, w) (by simp)
    by_cases hlt : a < k
    · simp only [Memory.insert, hlt, if_true, Memory.wfFrom, Bool.and_eq_true, decide_eq_true_eq, bne_iff_ne, ne_eq]
      exact ⟨⟨⟨hl, ha⟩, hv⟩, ⟨⟨hlt, h'.1.1.2⟩, by simpa using h'.1.2⟩, h'.2⟩
    · have hr := ih (k + 1) h'.2 (by omega) (fun c hc => hne c (by simp [hc]))
      simp only [Memory.insert, hlt, if_false, Memory.wfFrom, Bool.and_eq_true, decide_eq_true_eq]
      exact ⟨h'.1, hr⟩

/-- Every write keeps the canonical form. -/
theorem Memory.wf_write (m : Memory) (a : Word) (v : Byte) (h : m.wf = true) : (m.write a v).wf = true := by
  have he := Memory.wfFrom_erase m a.toNat 0 h
  by_cases hv : v = unlistedByte
  · simpa [Memory.write, hv, Memory.wf] using he
  · simpa [Memory.write, hv, Memory.wf] using
      Memory.wfFrom_insert _ a.toNat v 0 he (Nat.zero_le _) a.isLt hv (Memory.erase_ne_key m _)

/-- The empty list, memory after reset, is in canonical form. -/
theorem Memory.wf_nil : Memory.wf [] = true := rfl

end Sys2Proof.Machine
end

