-- ==== Sys2Proof/Laws/State.lean ====
section
/-! SUPPORT. One lemma per field per update of State, so that no proof unfolds a record update; and the reset state as the `reset()` call leaves it. -/

namespace Sys2Proof.Machine

@[simp] theorem State.setA_a (s : State) (v : Byte) : (s.setA v).a = v := rfl
@[simp] theorem State.setA_x (s : State) (v : Byte) : (s.setA v).x = s.x := rfl
@[simp] theorem State.setA_y (s : State) (v : Byte) : (s.setA v).y = s.y := rfl
@[simp] theorem State.setA_sp (s : State) (v : Byte) : (s.setA v).sp = s.sp := rfl
@[simp] theorem State.setA_pc (s : State) (v : Byte) : (s.setA v).pc = s.pc := rfl
@[simp] theorem State.setA_p (s : State) (v : Byte) : (s.setA v).p = s.p := rfl
@[simp] theorem State.setA_halted (s : State) (v : Byte) : (s.setA v).halted = s.halted := rfl
@[simp] theorem State.setA_nmiPending (s : State) (v : Byte) : (s.setA v).nmiPending = s.nmiPending := rfl
@[simp] theorem State.setA_irq (s : State) (v : Byte) : (s.setA v).irq = s.irq := rfl
@[simp] theorem State.setA_mem (s : State) (v : Byte) : (s.setA v).mem = s.mem := rfl
@[simp] theorem State.setA_config (s : State) (v : Byte) : (s.setA v).config = s.config := rfl
@[simp] theorem State.setA_clockResult (s : State) (v : Byte) : (s.setA v).clockResult = s.clockResult := rfl
@[simp] theorem State.setX_a (s : State) (v : Byte) : (s.setX v).a = s.a := rfl
@[simp] theorem State.setX_x (s : State) (v : Byte) : (s.setX v).x = v := rfl
@[simp] theorem State.setX_y (s : State) (v : Byte) : (s.setX v).y = s.y := rfl
@[simp] theorem State.setX_sp (s : State) (v : Byte) : (s.setX v).sp = s.sp := rfl
@[simp] theorem State.setX_pc (s : State) (v : Byte) : (s.setX v).pc = s.pc := rfl
@[simp] theorem State.setX_p (s : State) (v : Byte) : (s.setX v).p = s.p := rfl
@[simp] theorem State.setX_halted (s : State) (v : Byte) : (s.setX v).halted = s.halted := rfl
@[simp] theorem State.setX_nmiPending (s : State) (v : Byte) : (s.setX v).nmiPending = s.nmiPending := rfl
@[simp] theorem State.setX_irq (s : State) (v : Byte) : (s.setX v).irq = s.irq := rfl
@[simp] theorem State.setX_mem (s : State) (v : Byte) : (s.setX v).mem = s.mem := rfl
@[simp] theorem State.setX_config (s : State) (v : Byte) : (s.setX v).config = s.config := rfl
@[simp] theorem State.setX_clockResult (s : State) (v : Byte) : (s.setX v).clockResult = s.clockResult := rfl
@[simp] theorem State.setY_a (s : State) (v : Byte) : (s.setY v).a = s.a := rfl
@[simp] theorem State.setY_x (s : State) (v : Byte) : (s.setY v).x = s.x := rfl
@[simp] theorem State.setY_y (s : State) (v : Byte) : (s.setY v).y = v := rfl
@[simp] theorem State.setY_sp (s : State) (v : Byte) : (s.setY v).sp = s.sp := rfl
@[simp] theorem State.setY_pc (s : State) (v : Byte) : (s.setY v).pc = s.pc := rfl
@[simp] theorem State.setY_p (s : State) (v : Byte) : (s.setY v).p = s.p := rfl
@[simp] theorem State.setY_halted (s : State) (v : Byte) : (s.setY v).halted = s.halted := rfl
@[simp] theorem State.setY_nmiPending (s : State) (v : Byte) : (s.setY v).nmiPending = s.nmiPending := rfl
@[simp] theorem State.setY_irq (s : State) (v : Byte) : (s.setY v).irq = s.irq := rfl
@[simp] theorem State.setY_mem (s : State) (v : Byte) : (s.setY v).mem = s.mem := rfl
@[simp] theorem State.setY_config (s : State) (v : Byte) : (s.setY v).config = s.config := rfl
@[simp] theorem State.setY_clockResult (s : State) (v : Byte) : (s.setY v).clockResult = s.clockResult := rfl
@[simp] theorem State.setSp_a (s : State) (v : Byte) : (s.setSp v).a = s.a := rfl
@[simp] theorem State.setSp_x (s : State) (v : Byte) : (s.setSp v).x = s.x := rfl
@[simp] theorem State.setSp_y (s : State) (v : Byte) : (s.setSp v).y = s.y := rfl
@[simp] theorem State.setSp_sp (s : State) (v : Byte) : (s.setSp v).sp = v := rfl
@[simp] theorem State.setSp_pc (s : State) (v : Byte) : (s.setSp v).pc = s.pc := rfl
@[simp] theorem State.setSp_p (s : State) (v : Byte) : (s.setSp v).p = s.p := rfl
@[simp] theorem State.setSp_halted (s : State) (v : Byte) : (s.setSp v).halted = s.halted := rfl
@[simp] theorem State.setSp_nmiPending (s : State) (v : Byte) : (s.setSp v).nmiPending = s.nmiPending := rfl
@[simp] theorem State.setSp_irq (s : State) (v : Byte) : (s.setSp v).irq = s.irq := rfl
@[simp] theorem State.setSp_mem (s : State) (v : Byte) : (s.setSp v).mem = s.mem := rfl
@[simp] theorem State.setSp_config (s : State) (v : Byte) : (s.setSp v).config = s.config := rfl
@[simp] theorem State.setSp_clockResult (s : State) (v : Byte) : (s.setSp v).clockResult = s.clockResult := rfl
@[simp] theorem State.setPc_a (s : State) (v : Word) : (s.setPc v).a = s.a := rfl
@[simp] theorem State.setPc_x (s : State) (v : Word) : (s.setPc v).x = s.x := rfl
@[simp] theorem State.setPc_y (s : State) (v : Word) : (s.setPc v).y = s.y := rfl
@[simp] theorem State.setPc_sp (s : State) (v : Word) : (s.setPc v).sp = s.sp := rfl
@[simp] theorem State.setPc_pc (s : State) (v : Word) : (s.setPc v).pc = v := rfl
@[simp] theorem State.setPc_p (s : State) (v : Word) : (s.setPc v).p = s.p := rfl
@[simp] theorem State.setPc_halted (s : State) (v : Word) : (s.setPc v).halted = s.halted := rfl
@[simp] theorem State.setPc_nmiPending (s : State) (v : Word) : (s.setPc v).nmiPending = s.nmiPending := rfl
@[simp] theorem State.setPc_irq (s : State) (v : Word) : (s.setPc v).irq = s.irq := rfl
@[simp] theorem State.setPc_mem (s : State) (v : Word) : (s.setPc v).mem = s.mem := rfl
@[simp] theorem State.setPc_config (s : State) (v : Word) : (s.setPc v).config = s.config := rfl
@[simp] theorem State.setPc_clockResult (s : State) (v : Word) : (s.setPc v).clockResult = s.clockResult := rfl
@[simp] theorem State.setP_a (s : State) (v : Flags) : (s.setP v).a = s.a := rfl
@[simp] theorem State.setP_x (s : State) (v : Flags) : (s.setP v).x = s.x := rfl
@[simp] theorem State.setP_y (s : State) (v : Flags) : (s.setP v).y = s.y := rfl
@[simp] theorem State.setP_sp (s : State) (v : Flags) : (s.setP v).sp = s.sp := rfl
@[simp] theorem State.setP_pc (s : State) (v : Flags) : (s.setP v).pc = s.pc := rfl
@[simp] theorem State.setP_p (s : State) (v : Flags) : (s.setP v).p = v := rfl
@[simp] theorem State.setP_halted (s : State) (v : Flags) : (s.setP v).halted = s.halted := rfl
@[simp] theorem State.setP_nmiPending (s : State) (v : Flags) : (s.setP v).nmiPending = s.nmiPending := rfl
@[simp] theorem State.setP_irq (s : State) (v : Flags) : (s.setP v).irq = s.irq := rfl
@[simp] theorem State.setP_mem (s : State) (v : Flags) : (s.setP v).mem = s.mem := rfl
@[simp] theorem State.setP_config (s : State) (v : Flags) : (s.setP v).config = s.config := rfl
@[simp] theorem State.setP_clockResult (s : State) (v : Flags) : (s.setP v).clockResult = s.clockResult := rfl
@[simp] theorem State.setHalted_a (s : State) (v : Bool) : (s.setHalted v).a = s.a := rfl
@[simp] theorem State.setHalted_x (s : State) (v : Bool) : (s.setHalted v).x = s.x := rfl
@[simp] theorem State.setHalted_y (s : State) (v : Bool) : (s.setHalted v).y = s.y := rfl
@[simp] theorem State.setHalted_sp (s : State) (v : Bool) : (s.setHalted v).sp = s.sp := rfl
@[simp] theorem State.setHalted_pc (s : State) (v : Bool) : (s.setHalted v).pc = s.pc := rfl
@[simp] theorem State.setHalted_p (s : State) (v : Bool) : (s.setHalted v).p = s.p := rfl
@[simp] theorem State.setHalted_halted (s : State) (v : Bool) : (s.setHalted v).halted = v := rfl
@[simp] theorem State.setHalted_nmiPending (s : State) (v : Bool) : (s.setHalted v).nmiPending = s.nmiPending := rfl
@[simp] theorem State.setHalted_irq (s : State) (v : Bool) : (s.setHalted v).irq = s.irq := rfl
@[simp] theorem State.setHalted_mem (s : State) (v : Bool) : (s.setHalted v).mem = s.mem := rfl
@[simp] theorem State.setHalted_config (s : State) (v : Bool) : (s.setHalted v).config = s.config := rfl
@[simp] theorem State.setHalted_clockResult (s : State) (v : Bool) : (s.setHalted v).clockResult = s.clockResult := rfl
@[simp] theorem State.setNmiPending_a (s : State) (v : Bool) : (s.setNmiPending v).a = s.a := rfl
@[simp] theorem State.setNmiPending_x (s : State) (v : Bool) : (s.setNmiPending v).x = s.x := rfl
@[simp] theorem State.setNmiPending_y (s : State) (v : Bool) : (s.setNmiPending v).y = s.y := rfl
@[simp] theorem State.setNmiPending_sp (s : State) (v : Bool) : (s.setNmiPending v).sp = s.sp := rfl
@[simp] theorem State.setNmiPending_pc (s : State) (v : Bool) : (s.setNmiPending v).pc = s.pc := rfl
@[simp] theorem State.setNmiPending_p (s : State) (v : Bool) : (s.setNmiPending v).p = s.p := rfl
@[simp] theorem State.setNmiPending_halted (s : State) (v : Bool) : (s.setNmiPending v).halted = s.halted := rfl
@[simp] theorem State.setNmiPending_nmiPending (s : State) (v : Bool) : (s.setNmiPending v).nmiPending = v := rfl
@[simp] theorem State.setNmiPending_irq (s : State) (v : Bool) : (s.setNmiPending v).irq = s.irq := rfl
@[simp] theorem State.setNmiPending_mem (s : State) (v : Bool) : (s.setNmiPending v).mem = s.mem := rfl
@[simp] theorem State.setNmiPending_config (s : State) (v : Bool) : (s.setNmiPending v).config = s.config := rfl
@[simp] theorem State.setNmiPending_clockResult (s : State) (v : Bool) : (s.setNmiPending v).clockResult = s.clockResult := rfl
@[simp] theorem State.setIrq_a (s : State) (v : Bool) : (s.setIrq v).a = s.a := rfl
@[simp] theorem State.setIrq_x (s : State) (v : Bool) : (s.setIrq v).x = s.x := rfl
@[simp] theorem State.setIrq_y (s : State) (v : Bool) : (s.setIrq v).y = s.y := rfl
@[simp] theorem State.setIrq_sp (s : State) (v : Bool) : (s.setIrq v).sp = s.sp := rfl
@[simp] theorem State.setIrq_pc (s : State) (v : Bool) : (s.setIrq v).pc = s.pc := rfl
@[simp] theorem State.setIrq_p (s : State) (v : Bool) : (s.setIrq v).p = s.p := rfl
@[simp] theorem State.setIrq_halted (s : State) (v : Bool) : (s.setIrq v).halted = s.halted := rfl
@[simp] theorem State.setIrq_nmiPending (s : State) (v : Bool) : (s.setIrq v).nmiPending = s.nmiPending := rfl
@[simp] theorem State.setIrq_irq (s : State) (v : Bool) : (s.setIrq v).irq = v := rfl
@[simp] theorem State.setIrq_mem (s : State) (v : Bool) : (s.setIrq v).mem = s.mem := rfl
@[simp] theorem State.setIrq_config (s : State) (v : Bool) : (s.setIrq v).config = s.config := rfl
@[simp] theorem State.setIrq_clockResult (s : State) (v : Bool) : (s.setIrq v).clockResult = s.clockResult := rfl
@[simp] theorem State.setMem_a (s : State) (v : Memory) : (s.setMem v).a = s.a := rfl
@[simp] theorem State.setMem_x (s : State) (v : Memory) : (s.setMem v).x = s.x := rfl
@[simp] theorem State.setMem_y (s : State) (v : Memory) : (s.setMem v).y = s.y := rfl
@[simp] theorem State.setMem_sp (s : State) (v : Memory) : (s.setMem v).sp = s.sp := rfl
@[simp] theorem State.setMem_pc (s : State) (v : Memory) : (s.setMem v).pc = s.pc := rfl
@[simp] theorem State.setMem_p (s : State) (v : Memory) : (s.setMem v).p = s.p := rfl
@[simp] theorem State.setMem_halted (s : State) (v : Memory) : (s.setMem v).halted = s.halted := rfl
@[simp] theorem State.setMem_nmiPending (s : State) (v : Memory) : (s.setMem v).nmiPending = s.nmiPending := rfl
@[simp] theorem State.setMem_irq (s : State) (v : Memory) : (s.setMem v).irq = s.irq := rfl
@[simp] theorem State.setMem_mem (s : State) (v : Memory) : (s.setMem v).mem = v := rfl
@[simp] theorem State.setMem_config (s : State) (v : Memory) : (s.setMem v).config = s.config := rfl
@[simp] theorem State.setMem_clockResult (s : State) (v : Memory) : (s.setMem v).clockResult = s.clockResult := rfl
@[simp] theorem State.setClockResult_a (s : State) (v : Option Nat) : (s.setClockResult v).a = s.a := rfl
@[simp] theorem State.setClockResult_x (s : State) (v : Option Nat) : (s.setClockResult v).x = s.x := rfl
@[simp] theorem State.setClockResult_y (s : State) (v : Option Nat) : (s.setClockResult v).y = s.y := rfl
@[simp] theorem State.setClockResult_sp (s : State) (v : Option Nat) : (s.setClockResult v).sp = s.sp := rfl
@[simp] theorem State.setClockResult_pc (s : State) (v : Option Nat) : (s.setClockResult v).pc = s.pc := rfl
@[simp] theorem State.setClockResult_p (s : State) (v : Option Nat) : (s.setClockResult v).p = s.p := rfl
@[simp] theorem State.setClockResult_halted (s : State) (v : Option Nat) : (s.setClockResult v).halted = s.halted := rfl
@[simp] theorem State.setClockResult_nmiPending (s : State) (v : Option Nat) : (s.setClockResult v).nmiPending = s.nmiPending := rfl
@[simp] theorem State.setClockResult_irq (s : State) (v : Option Nat) : (s.setClockResult v).irq = s.irq := rfl
@[simp] theorem State.setClockResult_mem (s : State) (v : Option Nat) : (s.setClockResult v).mem = s.mem := rfl
@[simp] theorem State.setClockResult_config (s : State) (v : Option Nat) : (s.setClockResult v).config = s.config := rfl
@[simp] theorem State.setClockResult_clockResult (s : State) (v : Option Nat) : (s.setClockResult v).clockResult = v := rfl

/-- `State.reset` is what the `reset()` call leaves of a core with default parameters, irq low, over an empty bus (R330, log entries 1 to 5). -/
theorem State.reset_eq_reset_call (s : State) (hm : s.mem = []) (hc : s.config = Config.default) (hi : s.irq = false) :
    s.resetCall = State.reset := by
  simp only [State.resetCall, hm, hc, hi]
  rfl

end Sys2Proof.Machine
end

