-- ==== Sys2Proof/Laws/Ops.lean ====
section
/-! SUPPORT. Per shared operation, the whole of what it does to a state, so that a proof cites it and does not unfold the operation; and that the operations keep the memory's canonical form. -/

namespace Sys2Proof.Machine

theorem State.store_eq (s : State) (a : Word) (v : Byte) : s.store a v = { s with mem := s.mem.write a v } := rfl

theorem State.setNZ_eq (s : State) (v : Byte) :
    s.setNZ v = { s with p := { s.p with n := v.getLsbD 7, z := decide (v = 0#8) } } := rfl

theorem State.push_eq (s : State) (v : Byte) :
    s.push v = { s with mem := s.mem.write (stackAddress s.sp) v, sp := s.sp - 1 } := rfl

theorem State.pop_eq (s : State) : s.pop = (s.read (stackAddress (s.sp + 1)), { s with sp := s.sp + 1 }) := rfl

theorem sub_one_sub_one (b : Byte) : b - 1#8 - 1#8 = b - 2#8 := by bv_omega
theorem sub_two_sub_one (b : Byte) : b - 2#8 - 1#8 = b - 3#8 := by bv_omega
theorem add_one_add_one (b : Byte) : b + 1#8 + 1#8 = b + 2#8 := by bv_omega
theorem add_two_add_one (b : Byte) : b + 2#8 + 1#8 = b + 3#8 := by bv_omega

theorem State.pushWord_eq (s : State) (w : Word) :
    s.pushWord w = { s with
      mem := (s.mem.write (stackAddress s.sp) (hi w)).write (stackAddress (s.sp - 1)) (lo w), sp := s.sp - 2 } := by
  simp [State.pushWord, State.push_eq, sub_one_sub_one]

theorem State.popWord_eq (s : State) :
    s.popWord = (joinWord (s.read (stackAddress (s.sp + 2))) (s.read (stackAddress (s.sp + 1))),
      { s with sp := s.sp + 2 }) := by
  simp [State.popWord, State.pop_eq, State.read, add_one_add_one]

/-- The vector is read after the pushes, but no push reaches it (R72). -/
theorem Memory.readWord_write_stack (m : Memory) (a : Word) (sp v : Byte) (h : 512 ≤ a.toNat) (h1 : 512 ≤ (a + 1#16).toNat) :
    (m.write (stackAddress sp) v).readWord a = m.readWord a := by
  simp [Memory.readWord, Memory.read_write_ne _ _ _ _ (stackAddress_ne_of_ge sp _ h),
    Memory.read_write_ne _ _ _ _ (stackAddress_ne_of_ge sp _ h1)]

theorem State.enterInterrupt_eq (s : State) (b : Bool) (vector : Word) (h : 512 ≤ vector.toNat)
    (h1 : 512 ≤ (vector + 1#16).toNat) :
    s.enterInterrupt b vector = { s with
      sp := s.sp - 3
      p := { s.p with i := true }
      pc := s.mem.readWord vector
      mem := ((s.mem.write (stackAddress s.sp) (hi s.pc)).write (stackAddress (s.sp - 1)) (lo s.pc)).write
        (stackAddress (s.sp - 2)) (s.p.pack b) } := by
  simp [State.enterInterrupt, State.pushWord_eq, State.push_eq, State.setP, State.setPc, sub_two_sub_one,
    Memory.readWord_write_stack _ vector _ _ h h1]

/-- What an entry leaves in memory, whatever the vector. -/
theorem State.enterInterrupt_mem (s : State) (b : Bool) (vector : Word) :
    (s.enterInterrupt b vector).mem = ((s.mem.write (stackAddress s.sp) (hi s.pc)).write (stackAddress (s.sp - 1#8))
      (lo s.pc)).write (stackAddress (s.sp - 2#8)) (s.p.pack b) := by
  simp [State.enterInterrupt, State.pushWord_eq, State.push_eq, State.setP, State.setPc]

/-- An entry changes no byte but the three it pushes. -/
theorem State.enterInterrupt_read_ne (s : State) (b : Bool) (vector a : Word) (h0 : a ≠ stackAddress s.sp)
    (h1 : a ≠ stackAddress (s.sp - 1#8)) (h2 : a ≠ stackAddress (s.sp - 2#8)) :
    (s.enterInterrupt b vector).mem.read a = s.mem.read a := by
  rw [State.enterInterrupt_mem, Memory.read_write_ne _ _ _ _ h2, Memory.read_write_ne _ _ _ _ h1,
    Memory.read_write_ne _ _ _ _ h0]

theorem State.returnFromInterrupt_eq (s : State) :
    s.returnFromInterrupt = { s with
      sp := s.sp + 3
      p := Flags.unpack (s.read (stackAddress (s.sp + 1)))
      pc := joinWord (s.read (stackAddress (s.sp + 3))) (s.read (stackAddress (s.sp + 2))) } := by
  have h : s.sp + 1#8 + 2#8 = s.sp + 3#8 := by bv_omega
  simp [State.returnFromInterrupt, State.pop_eq, State.popWord_eq, State.setP, State.setPc, State.read, add_one_add_one, h]

theorem State.branch_eq (s : State) (cond : Bool) (o : Byte) :
    s.branch cond o = { s with pc := if cond then s.pc + sext16 o else s.pc } := rfl

/-! The frames of the shared operations: every field an operation does not write. -/

@[simp] theorem State.store_a (s : State) (a : Word) (v : Byte) : (s.store a v).a = s.a := by simp [State.store]
@[simp] theorem State.store_x (s : State) (a : Word) (v : Byte) : (s.store a v).x = s.x := by simp [State.store]
@[simp] theorem State.store_y (s : State) (a : Word) (v : Byte) : (s.store a v).y = s.y := by simp [State.store]
@[simp] theorem State.store_sp (s : State) (a : Word) (v : Byte) : (s.store a v).sp = s.sp := by simp [State.store]
@[simp] theorem State.store_pc (s : State) (a : Word) (v : Byte) : (s.store a v).pc = s.pc := by simp [State.store]
@[simp] theorem State.store_p (s : State) (a : Word) (v : Byte) : (s.store a v).p = s.p := by simp [State.store]
@[simp] theorem State.store_halted (s : State) (a : Word) (v : Byte) : (s.store a v).halted = s.halted := by simp [State.store]
@[simp] theorem State.store_nmiPending (s : State) (a : Word) (v : Byte) : (s.store a v).nmiPending = s.nmiPending := by simp [State.store]
@[simp] theorem State.store_irq (s : State) (a : Word) (v : Byte) : (s.store a v).irq = s.irq := by simp [State.store]
@[simp] theorem State.store_config (s : State) (a : Word) (v : Byte) : (s.store a v).config = s.config := by simp [State.store]
@[simp] theorem State.store_clockResult (s : State) (a : Word) (v : Byte) : (s.store a v).clockResult = s.clockResult := by simp [State.store]

@[simp] theorem State.setNZ_a (s : State) (v : Byte) : (s.setNZ v).a = s.a := by simp [State.setNZ]
@[simp] theorem State.setNZ_x (s : State) (v : Byte) : (s.setNZ v).x = s.x := by simp [State.setNZ]
@[simp] theorem State.setNZ_y (s : State) (v : Byte) : (s.setNZ v).y = s.y := by simp [State.setNZ]
@[simp] theorem State.setNZ_sp (s : State) (v : Byte) : (s.setNZ v).sp = s.sp := by simp [State.setNZ]
@[simp] theorem State.setNZ_pc (s : State) (v : Byte) : (s.setNZ v).pc = s.pc := by simp [State.setNZ]
@[simp] theorem State.setNZ_halted (s : State) (v : Byte) : (s.setNZ v).halted = s.halted := by simp [State.setNZ]
@[simp] theorem State.setNZ_nmiPending (s : State) (v : Byte) : (s.setNZ v).nmiPending = s.nmiPending := by simp [State.setNZ]
@[simp] theorem State.setNZ_irq (s : State) (v : Byte) : (s.setNZ v).irq = s.irq := by simp [State.setNZ]
@[simp] theorem State.setNZ_mem (s : State) (v : Byte) : (s.setNZ v).mem = s.mem := by simp [State.setNZ]
@[simp] theorem State.setNZ_config (s : State) (v : Byte) : (s.setNZ v).config = s.config := by simp [State.setNZ]
@[simp] theorem State.setNZ_clockResult (s : State) (v : Byte) : (s.setNZ v).clockResult = s.clockResult := by simp [State.setNZ]

@[simp] theorem State.push_a (s : State) (v : Byte) : (s.push v).a = s.a := by simp [State.push]
@[simp] theorem State.push_x (s : State) (v : Byte) : (s.push v).x = s.x := by simp [State.push]
@[simp] theorem State.push_y (s : State) (v : Byte) : (s.push v).y = s.y := by simp [State.push]
@[simp] theorem State.push_pc (s : State) (v : Byte) : (s.push v).pc = s.pc := by simp [State.push]
@[simp] theorem State.push_p (s : State) (v : Byte) : (s.push v).p = s.p := by simp [State.push]
@[simp] theorem State.push_halted (s : State) (v : Byte) : (s.push v).halted = s.halted := by simp [State.push]
@[simp] theorem State.push_nmiPending (s : State) (v : Byte) : (s.push v).nmiPending = s.nmiPending := by simp [State.push]
@[simp] theorem State.push_irq (s : State) (v : Byte) : (s.push v).irq = s.irq := by simp [State.push]
@[simp] theorem State.push_config (s : State) (v : Byte) : (s.push v).config = s.config := by simp [State.push]
@[simp] theorem State.push_clockResult (s : State) (v : Byte) : (s.push v).clockResult = s.clockResult := by simp [State.push]

@[simp] theorem State.pushWord_a (s : State) (w : Word) : (s.pushWord w).a = s.a := by simp [State.pushWord]
@[simp] theorem State.pushWord_x (s : State) (w : Word) : (s.pushWord w).x = s.x := by simp [State.pushWord]
@[simp] theorem State.pushWord_y (s : State) (w : Word) : (s.pushWord w).y = s.y := by simp [State.pushWord]
@[simp] theorem State.pushWord_pc (s : State) (w : Word) : (s.pushWord w).pc = s.pc := by simp [State.pushWord]
@[simp] theorem State.pushWord_p (s : State) (w : Word) : (s.pushWord w).p = s.p := by simp [State.pushWord]
@[simp] theorem State.pushWord_halted (s : State) (w : Word) : (s.pushWord w).halted = s.halted := by simp [State.pushWord]
@[simp] theorem State.pushWord_nmiPending (s : State) (w : Word) : (s.pushWord w).nmiPending = s.nmiPending := by simp [State.pushWord]
@[simp] theorem State.pushWord_irq (s : State) (w : Word) : (s.pushWord w).irq = s.irq := by simp [State.pushWord]
@[simp] theorem State.pushWord_config (s : State) (w : Word) : (s.pushWord w).config = s.config := by simp [State.pushWord]
@[simp] theorem State.pushWord_clockResult (s : State) (w : Word) : (s.pushWord w).clockResult = s.clockResult := by simp [State.pushWord]

@[simp] theorem State.enterInterrupt_a (s : State) (b : Bool) (vector : Word) : (s.enterInterrupt b vector).a = s.a := by simp [State.enterInterrupt]
@[simp] theorem State.enterInterrupt_x (s : State) (b : Bool) (vector : Word) : (s.enterInterrupt b vector).x = s.x := by simp [State.enterInterrupt]
@[simp] theorem State.enterInterrupt_y (s : State) (b : Bool) (vector : Word) : (s.enterInterrupt b vector).y = s.y := by simp [State.enterInterrupt]
@[simp] theorem State.enterInterrupt_halted (s : State) (b : Bool) (vector : Word) : (s.enterInterrupt b vector).halted = s.halted := by simp [State.enterInterrupt]
@[simp] theorem State.enterInterrupt_nmiPending (s : State) (b : Bool) (vector : Word) : (s.enterInterrupt b vector).nmiPending = s.nmiPending := by simp [State.enterInterrupt]
@[simp] theorem State.enterInterrupt_irq (s : State) (b : Bool) (vector : Word) : (s.enterInterrupt b vector).irq = s.irq := by simp [State.enterInterrupt]
@[simp] theorem State.enterInterrupt_config (s : State) (b : Bool) (vector : Word) : (s.enterInterrupt b vector).config = s.config := by simp [State.enterInterrupt]
@[simp] theorem State.enterInterrupt_clockResult (s : State) (b : Bool) (vector : Word) : (s.enterInterrupt b vector).clockResult = s.clockResult := by simp [State.enterInterrupt]

@[simp] theorem State.returnFromInterrupt_a (s : State)  : (s.returnFromInterrupt).a = s.a := by simp [State.returnFromInterrupt, State.popWord, State.pop]
@[simp] theorem State.returnFromInterrupt_x (s : State)  : (s.returnFromInterrupt).x = s.x := by simp [State.returnFromInterrupt, State.popWord, State.pop]
@[simp] theorem State.returnFromInterrupt_y (s : State)  : (s.returnFromInterrupt).y = s.y := by simp [State.returnFromInterrupt, State.popWord, State.pop]
@[simp] theorem State.returnFromInterrupt_halted (s : State)  : (s.returnFromInterrupt).halted = s.halted := by simp [State.returnFromInterrupt, State.popWord, State.pop]
@[simp] theorem State.returnFromInterrupt_nmiPending (s : State)  : (s.returnFromInterrupt).nmiPending = s.nmiPending := by simp [State.returnFromInterrupt, State.popWord, State.pop]
@[simp] theorem State.returnFromInterrupt_irq (s : State)  : (s.returnFromInterrupt).irq = s.irq := by simp [State.returnFromInterrupt, State.popWord, State.pop]
@[simp] theorem State.returnFromInterrupt_mem (s : State)  : (s.returnFromInterrupt).mem = s.mem := by simp [State.returnFromInterrupt, State.popWord, State.pop]
@[simp] theorem State.returnFromInterrupt_config (s : State)  : (s.returnFromInterrupt).config = s.config := by simp [State.returnFromInterrupt, State.popWord, State.pop]
@[simp] theorem State.returnFromInterrupt_clockResult (s : State)  : (s.returnFromInterrupt).clockResult = s.clockResult := by simp [State.returnFromInterrupt, State.popWord, State.pop]

@[simp] theorem State.branch_a (s : State) (cond : Bool) (o : Byte) : (s.branch cond o).a = s.a := by simp [State.branch]
@[simp] theorem State.branch_x (s : State) (cond : Bool) (o : Byte) : (s.branch cond o).x = s.x := by simp [State.branch]
@[simp] theorem State.branch_y (s : State) (cond : Bool) (o : Byte) : (s.branch cond o).y = s.y := by simp [State.branch]
@[simp] theorem State.branch_sp (s : State) (cond : Bool) (o : Byte) : (s.branch cond o).sp = s.sp := by simp [State.branch]
@[simp] theorem State.branch_p (s : State) (cond : Bool) (o : Byte) : (s.branch cond o).p = s.p := by simp [State.branch]
@[simp] theorem State.branch_halted (s : State) (cond : Bool) (o : Byte) : (s.branch cond o).halted = s.halted := by simp [State.branch]
@[simp] theorem State.branch_nmiPending (s : State) (cond : Bool) (o : Byte) : (s.branch cond o).nmiPending = s.nmiPending := by simp [State.branch]
@[simp] theorem State.branch_irq (s : State) (cond : Bool) (o : Byte) : (s.branch cond o).irq = s.irq := by simp [State.branch]
@[simp] theorem State.branch_mem (s : State) (cond : Bool) (o : Byte) : (s.branch cond o).mem = s.mem := by simp [State.branch]
@[simp] theorem State.branch_config (s : State) (cond : Bool) (o : Byte) : (s.branch cond o).config = s.config := by simp [State.branch]
@[simp] theorem State.branch_clockResult (s : State) (cond : Bool) (o : Byte) : (s.branch cond o).clockResult = s.clockResult := by simp [State.branch]

@[simp] theorem State.storeHigh_a (s : State) (rv : Byte) (base ea : Word) : (s.storeHigh rv base ea).a = s.a := by simp [State.storeHigh]
@[simp] theorem State.storeHigh_x (s : State) (rv : Byte) (base ea : Word) : (s.storeHigh rv base ea).x = s.x := by simp [State.storeHigh]
@[simp] theorem State.storeHigh_y (s : State) (rv : Byte) (base ea : Word) : (s.storeHigh rv base ea).y = s.y := by simp [State.storeHigh]
@[simp] theorem State.storeHigh_sp (s : State) (rv : Byte) (base ea : Word) : (s.storeHigh rv base ea).sp = s.sp := by simp [State.storeHigh]
@[simp] theorem State.storeHigh_pc (s : State) (rv : Byte) (base ea : Word) : (s.storeHigh rv base ea).pc = s.pc := by simp [State.storeHigh]
@[simp] theorem State.storeHigh_p (s : State) (rv : Byte) (base ea : Word) : (s.storeHigh rv base ea).p = s.p := by simp [State.storeHigh]
@[simp] theorem State.storeHigh_halted (s : State) (rv : Byte) (base ea : Word) : (s.storeHigh rv base ea).halted = s.halted := by simp [State.storeHigh]
@[simp] theorem State.storeHigh_nmiPending (s : State) (rv : Byte) (base ea : Word) : (s.storeHigh rv base ea).nmiPending = s.nmiPending := by simp [State.storeHigh]
@[simp] theorem State.storeHigh_irq (s : State) (rv : Byte) (base ea : Word) : (s.storeHigh rv base ea).irq = s.irq := by simp [State.storeHigh]
@[simp] theorem State.storeHigh_config (s : State) (rv : Byte) (base ea : Word) : (s.storeHigh rv base ea).config = s.config := by simp [State.storeHigh]
@[simp] theorem State.storeHigh_clockResult (s : State) (rv : Byte) (base ea : Word) : (s.storeHigh rv base ea).clockResult = s.clockResult := by simp [State.storeHigh]

theorem State.opCompare_eq (s : State) (r m : Byte) : s.opCompare r m = { s with p := s.p.compare r m } := rfl

theorem State.opAdc_eq (s : State) (m : Byte) :
    s.opAdc m = { s with
      a := BitVec.ofNat 8 (s.a.toNat + m.toNat + s.p.c.toNat)
      p := ((s.p.setOverflow s.a m (BitVec.ofNat 8 (s.a.toNat + m.toNat + s.p.c.toNat))).setCarry
        (s.a.toNat + m.toNat + s.p.c.toNat)).setNZ (BitVec.ofNat 8 (s.a.toNat + m.toNat + s.p.c.toNat)) } := rfl

theorem State.writeShifted_eq (s : State) (op : Operand) (r : Byte) (bit : Bool) :
    s.writeShifted op r bit = { s.writeOperand op r with p := (s.p.setShiftedOut bit).setNZ r } := rfl

theorem State.storeHigh_eq (s : State) (rv : Byte) (base ea : Word) :
    s.storeHigh rv base ea = { s with mem := s.mem.write (shTarget rv base ea) (shValue rv base) } := rfl

/-- A store keeps the canonical form. -/
theorem State.wf_store (s : State) (a : Word) (v : Byte) (h : s.mem.wf = true) : (s.store a v).mem.wf = true :=
  Memory.wf_write _ _ _ h

theorem State.wf_push (s : State) (v : Byte) (h : s.mem.wf = true) : (s.push v).mem.wf = true :=
  Memory.wf_write _ _ _ h

theorem State.wf_pushWord (s : State) (w : Word) (h : s.mem.wf = true) : (s.pushWord w).mem.wf = true :=
  State.wf_push _ _ (State.wf_push _ _ h)

theorem State.wf_writeOperand (s : State) (op : Operand) (v : Byte) (h : s.mem.wf = true) :
    (s.writeOperand op v).mem.wf = true := by
  cases op with
  | addr a => exact Memory.wf_write _ _ _ h
  | acc => exact h

theorem State.wf_enterInterrupt (s : State) (b : Bool) (vector : Word) (h : s.mem.wf = true) :
    (s.enterInterrupt b vector).mem.wf = true :=
  State.wf_push _ _ (State.wf_pushWord _ _ h)

/-- What `mapNext` answers next is the function of a next state. -/
theorem mapNext_next {f : State → State} {r : Result} {t : State} : mapNext f r = .next t ↔ ∃ u, r = .next u ∧ f u = t := by
  cases r <;> simp [mapNext]

/-- The four ways a `clock()` call goes (R94, R308). -/
theorem step_cases {s t : State} (h : step s = .next t) :
    (s.halted = true ∧ t = s.report s.config.jamCycles) ∨
    (s.halted = false ∧ s.nmiPending = true ∧
      t = ((s.setNmiPending false).interruptEntry nmiVector).report interruptCycles) ∨
    (s.halted = false ∧ s.nmiPending = false ∧ s.irq = true ∧ s.p.i = false ∧
      t = (s.interruptEntry irqVector).report interruptCycles) ∨
    (s.fetches = true ∧ ∃ u, exec s.fetched (s.advance s.fetched) = .next u ∧
      t = u.report (baseCycles s.config s.fetched)) := by
  unfold step clock at h
  by_cases hh : s.halted = true
  · rw [if_pos hh] at h
    injection h with h
    exact .inl ⟨hh, h.symm⟩
  by_cases hn : s.nmiPending = true
  · rw [if_neg hh, if_pos hn] at h
    injection h with h
    exact .inr (.inl ⟨by simpa using hh, hn, h.symm⟩)
  by_cases hi : (s.irq && !s.p.i) = true
  · rw [if_neg hh, if_neg hn, if_pos hi] at h
    injection h with h
    simp only [Bool.and_eq_true, Bool.not_eq_true'] at hi
    exact .inr (.inr (.inl ⟨by simpa using hh, by simpa using hn, hi.1, hi.2, h.symm⟩))
  · rw [if_neg hh, if_neg hn, if_neg hi] at h
    obtain ⟨u, hu, ht⟩ := mapNext_next.mp h
    refine .inr (.inr (.inr ⟨?_, u, hu, ht.symm⟩))
    simp only [Bool.not_eq_true] at hh hn hi
    simp [State.fetches, hh, hn, hi]

/-- A run of one step more (the host's `run`). -/
theorem run_succ (n : Nat) (s t : State) (h : step s = .next t) :
    Sys2Proof.core.run (n + 1) s = Sys2Proof.core.run n t := by
  have h' : Sys2Proof.core.step s = .next t := h
  have e := Host.Core.run.eq_2 Sys2Proof.core s n
  rw [h'] at e
  exact e

/-- The rotates' results as the rules write them (R172, R173). -/
theorem rolResult_eq (m : Byte) (c : Bool) : rolResult m c = (m <<< 1) ||| (if c then 0x01#8 else 0x00#8) := by
  cases c <;> rfl

theorem rorResult_eq (m : Byte) (c : Bool) : rorResult m c = (m >>> 1) ||| (if c then 0x80#8 else 0x00#8) := by
  cases c <;> rfl

/-- A relative target as integer arithmetic (R243). -/
theorem add_sext16 (pc : Word) (o : Byte) : pc + sext16 o = BitVec.ofInt 16 ((pc.toNat : Int) + o.toInt) := by
  simp only [sext16, BitVec.signExtend, BitVec.ofInt_add]
  congr 1
  simp

end Sys2Proof.Machine
end

