-- ==== Sys2Proof/Laws/Exec.lean ====
section
/-! SUPPORT. What an instruction does, by its mnemonic: the 256 arms of `exec` brought down to 76 operations over one resolved operand, so that a fact about every instruction needs one case per operation. -/

namespace Sys2Proof

open Machine

/-- The byte an instruction operates on: its own operand byte, the byte at its effective address, or A. -/
def Instr.operandByte (i : Instr) (s : State) : Byte :=
  match i.mode, i.operands with
  | .imm, .byte b => b
  | .rel, .byte b => b
  | m, o =>
    match s.effectiveAddress m o with
    | some a => s.read a
    | none => s.a

/-- The place an instruction reads and writes back: its effective address, or A where the mode designates no byte. -/
def Instr.operandPlace (i : Instr) (s : State) : Operand :=
  match s.effectiveAddress i.mode i.operands with
  | some a => .addr a
  | none => .acc

/-- An instruction's effective address; 0 where its mode designates no byte. -/
def Instr.ea (i : Instr) (s : State) : Word := (s.effectiveAddress i.mode i.operands).getD 0

/-- An instruction's unindexed base address; 0 where its mode has none. -/
def Instr.base (i : Instr) (s : State) : Word := (s.baseAddress i.mode i.operands).getD 0

/-- The operation of a mnemonic on a state and a resolved operand. -/
def Mnemonic.effect (mn : Mnemonic) (s : State) (m : Byte) (op : Operand) (base ea : Word) : State :=
  match mn with
  | .ADC => s.opAdc m
  | .ALR => s.opAlr m
  | .ANC => s.opAnc m
  | .AND => s.opAnd m
  | .ANE => s.opAne m
  | .ARR => s.opArr m
  | .ASL => s.opAsl op
  | .BCC => s.opBcc m
  | .BCS => s.opBcs m
  | .BEQ => s.opBeq m
  | .BIT => s.opBit m
  | .BMI => s.opBmi m
  | .BNE => s.opBne m
  | .BPL => s.opBpl m
  | .BRK => s.opBrk
  | .BVC => s.opBvc m
  | .BVS => s.opBvs m
  | .CLC => s.opClc
  | .CLD => s.opCld
  | .CLI => s.opCli
  | .CLV => s.opClv
  | .CMP => s.opCmp m
  | .CPX => s.opCpx m
  | .CPY => s.opCpy m
  | .DCP => s.opDcp ea
  | .DEC => s.opDec op
  | .DEX => s.opDex
  | .DEY => s.opDey
  | .EOR => s.opEor m
  | .INC => s.opInc op
  | .INX => s.opInx
  | .INY => s.opIny
  | .ISC => s.opIsc ea
  | .JAM => s.opJam
  | .JMP => s.opJmp ea
  | .JSR => s.opJsr ea
  | .LAS => s.opLas m
  | .LAX => s.opLax m
  | .LDA => s.opLda m
  | .LDX => s.opLdx m
  | .LDY => s.opLdy m
  | .LSR => s.opLsr op
  | .LXA => s.opLxa m
  | .NOP => s
  | .ORA => s.opOra m
  | .PHA => s.opPha
  | .PHP => s.opPhp
  | .PLA => s.opPla
  | .PLP => s.opPlp
  | .RLA => s.opRla ea
  | .ROL => s.opRol op
  | .ROR => s.opRor op
  | .RRA => s.opRra ea
  | .RTI => s.opRti
  | .RTS => s.opRts
  | .SAX => s.opSax ea
  | .SBC => s.opSbc m
  | .SBX => s.opSbx m
  | .SEC => s.opSec
  | .SED => s.opSed
  | .SEI => s.opSei
  | .SHA => s.opSha base ea
  | .SHX => s.opShx base ea
  | .SHY => s.opShy base ea
  | .SLO => s.opSlo ea
  | .SRE => s.opSre ea
  | .STA => s.opSta ea
  | .STX => s.opStx ea
  | .STY => s.opSty ea
  | .TAS => s.opTas base ea
  | .TAX => s.opTax
  | .TAY => s.opTay
  | .TSX => s.opTsx
  | .TXA => s.opTxa
  | .TXS => s.opTxs
  | .TYA => s.opTya

/-- Every meaning is its mnemonic's operation on its resolved operand; none faults or refuses. -/
theorem exec_eq_effect (i : Instr) (s : State) :
    exec i s = .next (i.mnemonic.effect s (i.operandByte s) (i.operandPlace s) (i.base s) (i.ea s)) := by
  cases i <;> rfl

/-- The same, from an answer of `exec`. -/
theorem eq_effect_of_exec {i : Instr} {s t : State} (h : exec i s = .next t) :
    t = i.mnemonic.effect s (i.operandByte s) (i.operandPlace s) (i.base s) (i.ea s) := by
  rw [exec_eq_effect] at h
  injection h with h
  exact h.symm

end Sys2Proof
end

