-- ==== Sys2Proof/Laws/PerInstr.lean ====
section
/-! SUPPORT. Facts about every instruction as syntax, one lemma per constructor. -/

namespace Sys2Proof.Laws

/-- An instruction's operand fits its mode (R91), and its encoding has the length of its format. -/
def FormatFits.Statement (i : Instr) : Prop := i.wellFormed = true ∧ (encode i).length = i.length

theorem FormatFits.oraIndX (z : Byte) : FormatFits.Statement (.oraIndX z) := ⟨rfl, rfl⟩
theorem FormatFits.sloIndX (z : Byte) : FormatFits.Statement (.sloIndX z) := ⟨rfl, rfl⟩
theorem FormatFits.nopZp04 (z : Byte) : FormatFits.Statement (.nopZp04 z) := ⟨rfl, rfl⟩
theorem FormatFits.oraZp (z : Byte) : FormatFits.Statement (.oraZp z) := ⟨rfl, rfl⟩
theorem FormatFits.aslZp (z : Byte) : FormatFits.Statement (.aslZp z) := ⟨rfl, rfl⟩
theorem FormatFits.sloZp (z : Byte) : FormatFits.Statement (.sloZp z) := ⟨rfl, rfl⟩
theorem FormatFits.oraImm (i : Byte) : FormatFits.Statement (.oraImm i) := ⟨rfl, rfl⟩
theorem FormatFits.ancImm0B (i : Byte) : FormatFits.Statement (.ancImm0B i) := ⟨rfl, rfl⟩
theorem FormatFits.nopAbs (w : Word) : FormatFits.Statement (.nopAbs w) := ⟨rfl, rfl⟩
theorem FormatFits.oraAbs (w : Word) : FormatFits.Statement (.oraAbs w) := ⟨rfl, rfl⟩
theorem FormatFits.aslAbs (w : Word) : FormatFits.Statement (.aslAbs w) := ⟨rfl, rfl⟩
theorem FormatFits.sloAbs (w : Word) : FormatFits.Statement (.sloAbs w) := ⟨rfl, rfl⟩
theorem FormatFits.bpl (o : Byte) : FormatFits.Statement (.bpl o) := ⟨rfl, rfl⟩
theorem FormatFits.oraIndY (z : Byte) : FormatFits.Statement (.oraIndY z) := ⟨rfl, rfl⟩
theorem FormatFits.sloIndY (z : Byte) : FormatFits.Statement (.sloIndY z) := ⟨rfl, rfl⟩
theorem FormatFits.nopZpX14 (z : Byte) : FormatFits.Statement (.nopZpX14 z) := ⟨rfl, rfl⟩
theorem FormatFits.oraZpX (z : Byte) : FormatFits.Statement (.oraZpX z) := ⟨rfl, rfl⟩
theorem FormatFits.aslZpX (z : Byte) : FormatFits.Statement (.aslZpX z) := ⟨rfl, rfl⟩
theorem FormatFits.sloZpX (z : Byte) : FormatFits.Statement (.sloZpX z) := ⟨rfl, rfl⟩
theorem FormatFits.oraAbsY (w : Word) : FormatFits.Statement (.oraAbsY w) := ⟨rfl, rfl⟩
theorem FormatFits.sloAbsY (w : Word) : FormatFits.Statement (.sloAbsY w) := ⟨rfl, rfl⟩
theorem FormatFits.nopAbsX1C (w : Word) : FormatFits.Statement (.nopAbsX1C w) := ⟨rfl, rfl⟩
theorem FormatFits.oraAbsX (w : Word) : FormatFits.Statement (.oraAbsX w) := ⟨rfl, rfl⟩
theorem FormatFits.aslAbsX (w : Word) : FormatFits.Statement (.aslAbsX w) := ⟨rfl, rfl⟩
theorem FormatFits.sloAbsX (w : Word) : FormatFits.Statement (.sloAbsX w) := ⟨rfl, rfl⟩
theorem FormatFits.jsrAbs (w : Word) : FormatFits.Statement (.jsrAbs w) := ⟨rfl, rfl⟩
theorem FormatFits.andIndX (z : Byte) : FormatFits.Statement (.andIndX z) := ⟨rfl, rfl⟩
theorem FormatFits.rlaIndX (z : Byte) : FormatFits.Statement (.rlaIndX z) := ⟨rfl, rfl⟩
theorem FormatFits.bitZp (z : Byte) : FormatFits.Statement (.bitZp z) := ⟨rfl, rfl⟩
theorem FormatFits.andZp (z : Byte) : FormatFits.Statement (.andZp z) := ⟨rfl, rfl⟩
theorem FormatFits.rolZp (z : Byte) : FormatFits.Statement (.rolZp z) := ⟨rfl, rfl⟩
theorem FormatFits.rlaZp (z : Byte) : FormatFits.Statement (.rlaZp z) := ⟨rfl, rfl⟩
theorem FormatFits.andImm (i : Byte) : FormatFits.Statement (.andImm i) := ⟨rfl, rfl⟩
theorem FormatFits.ancImm2B (i : Byte) : FormatFits.Statement (.ancImm2B i) := ⟨rfl, rfl⟩
theorem FormatFits.bitAbs (w : Word) : FormatFits.Statement (.bitAbs w) := ⟨rfl, rfl⟩
theorem FormatFits.andAbs (w : Word) : FormatFits.Statement (.andAbs w) := ⟨rfl, rfl⟩
theorem FormatFits.rolAbs (w : Word) : FormatFits.Statement (.rolAbs w) := ⟨rfl, rfl⟩
theorem FormatFits.rlaAbs (w : Word) : FormatFits.Statement (.rlaAbs w) := ⟨rfl, rfl⟩
theorem FormatFits.bmi (o : Byte) : FormatFits.Statement (.bmi o) := ⟨rfl, rfl⟩
theorem FormatFits.andIndY (z : Byte) : FormatFits.Statement (.andIndY z) := ⟨rfl, rfl⟩
theorem FormatFits.rlaIndY (z : Byte) : FormatFits.Statement (.rlaIndY z) := ⟨rfl, rfl⟩
theorem FormatFits.nopZpX34 (z : Byte) : FormatFits.Statement (.nopZpX34 z) := ⟨rfl, rfl⟩
theorem FormatFits.andZpX (z : Byte) : FormatFits.Statement (.andZpX z) := ⟨rfl, rfl⟩
theorem FormatFits.rolZpX (z : Byte) : FormatFits.Statement (.rolZpX z) := ⟨rfl, rfl⟩
theorem FormatFits.rlaZpX (z : Byte) : FormatFits.Statement (.rlaZpX z) := ⟨rfl, rfl⟩
theorem FormatFits.andAbsY (w : Word) : FormatFits.Statement (.andAbsY w) := ⟨rfl, rfl⟩
theorem FormatFits.rlaAbsY (w : Word) : FormatFits.Statement (.rlaAbsY w) := ⟨rfl, rfl⟩
theorem FormatFits.nopAbsX3C (w : Word) : FormatFits.Statement (.nopAbsX3C w) := ⟨rfl, rfl⟩
theorem FormatFits.andAbsX (w : Word) : FormatFits.Statement (.andAbsX w) := ⟨rfl, rfl⟩
theorem FormatFits.rolAbsX (w : Word) : FormatFits.Statement (.rolAbsX w) := ⟨rfl, rfl⟩
theorem FormatFits.rlaAbsX (w : Word) : FormatFits.Statement (.rlaAbsX w) := ⟨rfl, rfl⟩
theorem FormatFits.eorIndX (z : Byte) : FormatFits.Statement (.eorIndX z) := ⟨rfl, rfl⟩
theorem FormatFits.sreIndX (z : Byte) : FormatFits.Statement (.sreIndX z) := ⟨rfl, rfl⟩
theorem FormatFits.nopZp44 (z : Byte) : FormatFits.Statement (.nopZp44 z) := ⟨rfl, rfl⟩
theorem FormatFits.eorZp (z : Byte) : FormatFits.Statement (.eorZp z) := ⟨rfl, rfl⟩
theorem FormatFits.lsrZp (z : Byte) : FormatFits.Statement (.lsrZp z) := ⟨rfl, rfl⟩
theorem FormatFits.sreZp (z : Byte) : FormatFits.Statement (.sreZp z) := ⟨rfl, rfl⟩
theorem FormatFits.eorImm (i : Byte) : FormatFits.Statement (.eorImm i) := ⟨rfl, rfl⟩
theorem FormatFits.alrImm (i : Byte) : FormatFits.Statement (.alrImm i) := ⟨rfl, rfl⟩
theorem FormatFits.jmpAbs (w : Word) : FormatFits.Statement (.jmpAbs w) := ⟨rfl, rfl⟩
theorem FormatFits.eorAbs (w : Word) : FormatFits.Statement (.eorAbs w) := ⟨rfl, rfl⟩
theorem FormatFits.lsrAbs (w : Word) : FormatFits.Statement (.lsrAbs w) := ⟨rfl, rfl⟩
theorem FormatFits.sreAbs (w : Word) : FormatFits.Statement (.sreAbs w) := ⟨rfl, rfl⟩
theorem FormatFits.bvc (o : Byte) : FormatFits.Statement (.bvc o) := ⟨rfl, rfl⟩
theorem FormatFits.eorIndY (z : Byte) : FormatFits.Statement (.eorIndY z) := ⟨rfl, rfl⟩
theorem FormatFits.sreIndY (z : Byte) : FormatFits.Statement (.sreIndY z) := ⟨rfl, rfl⟩
theorem FormatFits.nopZpX54 (z : Byte) : FormatFits.Statement (.nopZpX54 z) := ⟨rfl, rfl⟩
theorem FormatFits.eorZpX (z : Byte) : FormatFits.Statement (.eorZpX z) := ⟨rfl, rfl⟩
theorem FormatFits.lsrZpX (z : Byte) : FormatFits.Statement (.lsrZpX z) := ⟨rfl, rfl⟩
theorem FormatFits.sreZpX (z : Byte) : FormatFits.Statement (.sreZpX z) := ⟨rfl, rfl⟩
theorem FormatFits.eorAbsY (w : Word) : FormatFits.Statement (.eorAbsY w) := ⟨rfl, rfl⟩
theorem FormatFits.sreAbsY (w : Word) : FormatFits.Statement (.sreAbsY w) := ⟨rfl, rfl⟩
theorem FormatFits.nopAbsX5C (w : Word) : FormatFits.Statement (.nopAbsX5C w) := ⟨rfl, rfl⟩
theorem FormatFits.eorAbsX (w : Word) : FormatFits.Statement (.eorAbsX w) := ⟨rfl, rfl⟩
theorem FormatFits.lsrAbsX (w : Word) : FormatFits.Statement (.lsrAbsX w) := ⟨rfl, rfl⟩
theorem FormatFits.sreAbsX (w : Word) : FormatFits.Statement (.sreAbsX w) := ⟨rfl, rfl⟩
theorem FormatFits.adcIndX (z : Byte) : FormatFits.Statement (.adcIndX z) := ⟨rfl, rfl⟩
theorem FormatFits.rraIndX (z : Byte) : FormatFits.Statement (.rraIndX z) := ⟨rfl, rfl⟩
theorem FormatFits.nopZp64 (z : Byte) : FormatFits.Statement (.nopZp64 z) := ⟨rfl, rfl⟩
theorem FormatFits.adcZp (z : Byte) : FormatFits.Statement (.adcZp z) := ⟨rfl, rfl⟩
theorem FormatFits.rorZp (z : Byte) : FormatFits.Statement (.rorZp z) := ⟨rfl, rfl⟩
theorem FormatFits.rraZp (z : Byte) : FormatFits.Statement (.rraZp z) := ⟨rfl, rfl⟩
theorem FormatFits.adcImm (i : Byte) : FormatFits.Statement (.adcImm i) := ⟨rfl, rfl⟩
theorem FormatFits.arrImm (i : Byte) : FormatFits.Statement (.arrImm i) := ⟨rfl, rfl⟩
theorem FormatFits.jmpInd (w : Word) : FormatFits.Statement (.jmpInd w) := ⟨rfl, rfl⟩
theorem FormatFits.adcAbs (w : Word) : FormatFits.Statement (.adcAbs w) := ⟨rfl, rfl⟩
theorem FormatFits.rorAbs (w : Word) : FormatFits.Statement (.rorAbs w) := ⟨rfl, rfl⟩
theorem FormatFits.rraAbs (w : Word) : FormatFits.Statement (.rraAbs w) := ⟨rfl, rfl⟩
theorem FormatFits.bvs (o : Byte) : FormatFits.Statement (.bvs o) := ⟨rfl, rfl⟩
theorem FormatFits.adcIndY (z : Byte) : FormatFits.Statement (.adcIndY z) := ⟨rfl, rfl⟩
theorem FormatFits.rraIndY (z : Byte) : FormatFits.Statement (.rraIndY z) := ⟨rfl, rfl⟩
theorem FormatFits.nopZpX74 (z : Byte) : FormatFits.Statement (.nopZpX74 z) := ⟨rfl, rfl⟩
theorem FormatFits.adcZpX (z : Byte) : FormatFits.Statement (.adcZpX z) := ⟨rfl, rfl⟩
theorem FormatFits.rorZpX (z : Byte) : FormatFits.Statement (.rorZpX z) := ⟨rfl, rfl⟩
theorem FormatFits.rraZpX (z : Byte) : FormatFits.Statement (.rraZpX z) := ⟨rfl, rfl⟩
theorem FormatFits.adcAbsY (w : Word) : FormatFits.Statement (.adcAbsY w) := ⟨rfl, rfl⟩
theorem FormatFits.rraAbsY (w : Word) : FormatFits.Statement (.rraAbsY w) := ⟨rfl, rfl⟩
theorem FormatFits.nopAbsX7C (w : Word) : FormatFits.Statement (.nopAbsX7C w) := ⟨rfl, rfl⟩
theorem FormatFits.adcAbsX (w : Word) : FormatFits.Statement (.adcAbsX w) := ⟨rfl, rfl⟩
theorem FormatFits.rorAbsX (w : Word) : FormatFits.Statement (.rorAbsX w) := ⟨rfl, rfl⟩
theorem FormatFits.rraAbsX (w : Word) : FormatFits.Statement (.rraAbsX w) := ⟨rfl, rfl⟩
theorem FormatFits.nopImm80 (i : Byte) : FormatFits.Statement (.nopImm80 i) := ⟨rfl, rfl⟩
theorem FormatFits.staIndX (z : Byte) : FormatFits.Statement (.staIndX z) := ⟨rfl, rfl⟩
theorem FormatFits.nopImm82 (i : Byte) : FormatFits.Statement (.nopImm82 i) := ⟨rfl, rfl⟩
theorem FormatFits.saxIndX (z : Byte) : FormatFits.Statement (.saxIndX z) := ⟨rfl, rfl⟩
theorem FormatFits.styZp (z : Byte) : FormatFits.Statement (.styZp z) := ⟨rfl, rfl⟩
theorem FormatFits.staZp (z : Byte) : FormatFits.Statement (.staZp z) := ⟨rfl, rfl⟩
theorem FormatFits.stxZp (z : Byte) : FormatFits.Statement (.stxZp z) := ⟨rfl, rfl⟩
theorem FormatFits.saxZp (z : Byte) : FormatFits.Statement (.saxZp z) := ⟨rfl, rfl⟩
theorem FormatFits.nopImm89 (i : Byte) : FormatFits.Statement (.nopImm89 i) := ⟨rfl, rfl⟩
theorem FormatFits.aneImm (i : Byte) : FormatFits.Statement (.aneImm i) := ⟨rfl, rfl⟩
theorem FormatFits.styAbs (w : Word) : FormatFits.Statement (.styAbs w) := ⟨rfl, rfl⟩
theorem FormatFits.staAbs (w : Word) : FormatFits.Statement (.staAbs w) := ⟨rfl, rfl⟩
theorem FormatFits.stxAbs (w : Word) : FormatFits.Statement (.stxAbs w) := ⟨rfl, rfl⟩
theorem FormatFits.saxAbs (w : Word) : FormatFits.Statement (.saxAbs w) := ⟨rfl, rfl⟩
theorem FormatFits.bcc (o : Byte) : FormatFits.Statement (.bcc o) := ⟨rfl, rfl⟩
theorem FormatFits.staIndY (z : Byte) : FormatFits.Statement (.staIndY z) := ⟨rfl, rfl⟩
theorem FormatFits.shaIndY (z : Byte) : FormatFits.Statement (.shaIndY z) := ⟨rfl, rfl⟩
theorem FormatFits.styZpX (z : Byte) : FormatFits.Statement (.styZpX z) := ⟨rfl, rfl⟩
theorem FormatFits.staZpX (z : Byte) : FormatFits.Statement (.staZpX z) := ⟨rfl, rfl⟩
theorem FormatFits.stxZpY (z : Byte) : FormatFits.Statement (.stxZpY z) := ⟨rfl, rfl⟩
theorem FormatFits.saxZpY (z : Byte) : FormatFits.Statement (.saxZpY z) := ⟨rfl, rfl⟩
theorem FormatFits.staAbsY (w : Word) : FormatFits.Statement (.staAbsY w) := ⟨rfl, rfl⟩
theorem FormatFits.tasAbsY (w : Word) : FormatFits.Statement (.tasAbsY w) := ⟨rfl, rfl⟩
theorem FormatFits.shyAbsX (w : Word) : FormatFits.Statement (.shyAbsX w) := ⟨rfl, rfl⟩
theorem FormatFits.staAbsX (w : Word) : FormatFits.Statement (.staAbsX w) := ⟨rfl, rfl⟩
theorem FormatFits.shxAbsY (w : Word) : FormatFits.Statement (.shxAbsY w) := ⟨rfl, rfl⟩
theorem FormatFits.shaAbsY (w : Word) : FormatFits.Statement (.shaAbsY w) := ⟨rfl, rfl⟩
theorem FormatFits.ldyImm (i : Byte) : FormatFits.Statement (.ldyImm i) := ⟨rfl, rfl⟩
theorem FormatFits.ldaIndX (z : Byte) : FormatFits.Statement (.ldaIndX z) := ⟨rfl, rfl⟩
theorem FormatFits.ldxImm (i : Byte) : FormatFits.Statement (.ldxImm i) := ⟨rfl, rfl⟩
theorem FormatFits.laxIndX (z : Byte) : FormatFits.Statement (.laxIndX z) := ⟨rfl, rfl⟩
theorem FormatFits.ldyZp (z : Byte) : FormatFits.Statement (.ldyZp z) := ⟨rfl, rfl⟩
theorem FormatFits.ldaZp (z : Byte) : FormatFits.Statement (.ldaZp z) := ⟨rfl, rfl⟩
theorem FormatFits.ldxZp (z : Byte) : FormatFits.Statement (.ldxZp z) := ⟨rfl, rfl⟩
theorem FormatFits.laxZp (z : Byte) : FormatFits.Statement (.laxZp z) := ⟨rfl, rfl⟩
theorem FormatFits.ldaImm (i : Byte) : FormatFits.Statement (.ldaImm i) := ⟨rfl, rfl⟩
theorem FormatFits.lxaImm (i : Byte) : FormatFits.Statement (.lxaImm i) := ⟨rfl, rfl⟩
theorem FormatFits.ldyAbs (w : Word) : FormatFits.Statement (.ldyAbs w) := ⟨rfl, rfl⟩
theorem FormatFits.ldaAbs (w : Word) : FormatFits.Statement (.ldaAbs w) := ⟨rfl, rfl⟩
theorem FormatFits.ldxAbs (w : Word) : FormatFits.Statement (.ldxAbs w) := ⟨rfl, rfl⟩
theorem FormatFits.laxAbs (w : Word) : FormatFits.Statement (.laxAbs w) := ⟨rfl, rfl⟩
theorem FormatFits.bcs (o : Byte) : FormatFits.Statement (.bcs o) := ⟨rfl, rfl⟩
theorem FormatFits.ldaIndY (z : Byte) : FormatFits.Statement (.ldaIndY z) := ⟨rfl, rfl⟩
theorem FormatFits.laxIndY (z : Byte) : FormatFits.Statement (.laxIndY z) := ⟨rfl, rfl⟩
theorem FormatFits.ldyZpX (z : Byte) : FormatFits.Statement (.ldyZpX z) := ⟨rfl, rfl⟩
theorem FormatFits.ldaZpX (z : Byte) : FormatFits.Statement (.ldaZpX z) := ⟨rfl, rfl⟩
theorem FormatFits.ldxZpY (z : Byte) : FormatFits.Statement (.ldxZpY z) := ⟨rfl, rfl⟩
theorem FormatFits.laxZpY (z : Byte) : FormatFits.Statement (.laxZpY z) := ⟨rfl, rfl⟩
theorem FormatFits.ldaAbsY (w : Word) : FormatFits.Statement (.ldaAbsY w) := ⟨rfl, rfl⟩
theorem FormatFits.lasAbsY (w : Word) : FormatFits.Statement (.lasAbsY w) := ⟨rfl, rfl⟩
theorem FormatFits.ldyAbsX (w : Word) : FormatFits.Statement (.ldyAbsX w) := ⟨rfl, rfl⟩
theorem FormatFits.ldaAbsX (w : Word) : FormatFits.Statement (.ldaAbsX w) := ⟨rfl, rfl⟩
theorem FormatFits.ldxAbsY (w : Word) : FormatFits.Statement (.ldxAbsY w) := ⟨rfl, rfl⟩
theorem FormatFits.laxAbsY (w : Word) : FormatFits.Statement (.laxAbsY w) := ⟨rfl, rfl⟩
theorem FormatFits.cpyImm (i : Byte) : FormatFits.Statement (.cpyImm i) := ⟨rfl, rfl⟩
theorem FormatFits.cmpIndX (z : Byte) : FormatFits.Statement (.cmpIndX z) := ⟨rfl, rfl⟩
theorem FormatFits.nopImmC2 (i : Byte) : FormatFits.Statement (.nopImmC2 i) := ⟨rfl, rfl⟩
theorem FormatFits.dcpIndX (z : Byte) : FormatFits.Statement (.dcpIndX z) := ⟨rfl, rfl⟩
theorem FormatFits.cpyZp (z : Byte) : FormatFits.Statement (.cpyZp z) := ⟨rfl, rfl⟩
theorem FormatFits.cmpZp (z : Byte) : FormatFits.Statement (.cmpZp z) := ⟨rfl, rfl⟩
theorem FormatFits.decZp (z : Byte) : FormatFits.Statement (.decZp z) := ⟨rfl, rfl⟩
theorem FormatFits.dcpZp (z : Byte) : FormatFits.Statement (.dcpZp z) := ⟨rfl, rfl⟩
theorem FormatFits.cmpImm (i : Byte) : FormatFits.Statement (.cmpImm i) := ⟨rfl, rfl⟩
theorem FormatFits.sbxImm (i : Byte) : FormatFits.Statement (.sbxImm i) := ⟨rfl, rfl⟩
theorem FormatFits.cpyAbs (w : Word) : FormatFits.Statement (.cpyAbs w) := ⟨rfl, rfl⟩
theorem FormatFits.cmpAbs (w : Word) : FormatFits.Statement (.cmpAbs w) := ⟨rfl, rfl⟩
theorem FormatFits.decAbs (w : Word) : FormatFits.Statement (.decAbs w) := ⟨rfl, rfl⟩
theorem FormatFits.dcpAbs (w : Word) : FormatFits.Statement (.dcpAbs w) := ⟨rfl, rfl⟩
theorem FormatFits.bne (o : Byte) : FormatFits.Statement (.bne o) := ⟨rfl, rfl⟩
theorem FormatFits.cmpIndY (z : Byte) : FormatFits.Statement (.cmpIndY z) := ⟨rfl, rfl⟩
theorem FormatFits.dcpIndY (z : Byte) : FormatFits.Statement (.dcpIndY z) := ⟨rfl, rfl⟩
theorem FormatFits.nopZpXD4 (z : Byte) : FormatFits.Statement (.nopZpXD4 z) := ⟨rfl, rfl⟩
theorem FormatFits.cmpZpX (z : Byte) : FormatFits.Statement (.cmpZpX z) := ⟨rfl, rfl⟩
theorem FormatFits.decZpX (z : Byte) : FormatFits.Statement (.decZpX z) := ⟨rfl, rfl⟩
theorem FormatFits.dcpZpX (z : Byte) : FormatFits.Statement (.dcpZpX z) := ⟨rfl, rfl⟩
theorem FormatFits.cmpAbsY (w : Word) : FormatFits.Statement (.cmpAbsY w) := ⟨rfl, rfl⟩
theorem FormatFits.dcpAbsY (w : Word) : FormatFits.Statement (.dcpAbsY w) := ⟨rfl, rfl⟩
theorem FormatFits.nopAbsXDC (w : Word) : FormatFits.Statement (.nopAbsXDC w) := ⟨rfl, rfl⟩
theorem FormatFits.cmpAbsX (w : Word) : FormatFits.Statement (.cmpAbsX w) := ⟨rfl, rfl⟩
theorem FormatFits.decAbsX (w : Word) : FormatFits.Statement (.decAbsX w) := ⟨rfl, rfl⟩
theorem FormatFits.dcpAbsX (w : Word) : FormatFits.Statement (.dcpAbsX w) := ⟨rfl, rfl⟩
theorem FormatFits.cpxImm (i : Byte) : FormatFits.Statement (.cpxImm i) := ⟨rfl, rfl⟩
theorem FormatFits.sbcIndX (z : Byte) : FormatFits.Statement (.sbcIndX z) := ⟨rfl, rfl⟩
theorem FormatFits.nopImmE2 (i : Byte) : FormatFits.Statement (.nopImmE2 i) := ⟨rfl, rfl⟩
theorem FormatFits.iscIndX (z : Byte) : FormatFits.Statement (.iscIndX z) := ⟨rfl, rfl⟩
theorem FormatFits.cpxZp (z : Byte) : FormatFits.Statement (.cpxZp z) := ⟨rfl, rfl⟩
theorem FormatFits.sbcZp (z : Byte) : FormatFits.Statement (.sbcZp z) := ⟨rfl, rfl⟩
theorem FormatFits.incZp (z : Byte) : FormatFits.Statement (.incZp z) := ⟨rfl, rfl⟩
theorem FormatFits.iscZp (z : Byte) : FormatFits.Statement (.iscZp z) := ⟨rfl, rfl⟩
theorem FormatFits.sbcImm (i : Byte) : FormatFits.Statement (.sbcImm i) := ⟨rfl, rfl⟩
theorem FormatFits.sbcImmEB (i : Byte) : FormatFits.Statement (.sbcImmEB i) := ⟨rfl, rfl⟩
theorem FormatFits.cpxAbs (w : Word) : FormatFits.Statement (.cpxAbs w) := ⟨rfl, rfl⟩
theorem FormatFits.sbcAbs (w : Word) : FormatFits.Statement (.sbcAbs w) := ⟨rfl, rfl⟩
theorem FormatFits.incAbs (w : Word) : FormatFits.Statement (.incAbs w) := ⟨rfl, rfl⟩
theorem FormatFits.iscAbs (w : Word) : FormatFits.Statement (.iscAbs w) := ⟨rfl, rfl⟩
theorem FormatFits.beq (o : Byte) : FormatFits.Statement (.beq o) := ⟨rfl, rfl⟩
theorem FormatFits.sbcIndY (z : Byte) : FormatFits.Statement (.sbcIndY z) := ⟨rfl, rfl⟩
theorem FormatFits.iscIndY (z : Byte) : FormatFits.Statement (.iscIndY z) := ⟨rfl, rfl⟩
theorem FormatFits.nopZpXF4 (z : Byte) : FormatFits.Statement (.nopZpXF4 z) := ⟨rfl, rfl⟩
theorem FormatFits.sbcZpX (z : Byte) : FormatFits.Statement (.sbcZpX z) := ⟨rfl, rfl⟩
theorem FormatFits.incZpX (z : Byte) : FormatFits.Statement (.incZpX z) := ⟨rfl, rfl⟩
theorem FormatFits.iscZpX (z : Byte) : FormatFits.Statement (.iscZpX z) := ⟨rfl, rfl⟩
theorem FormatFits.sbcAbsY (w : Word) : FormatFits.Statement (.sbcAbsY w) := ⟨rfl, rfl⟩
theorem FormatFits.iscAbsY (w : Word) : FormatFits.Statement (.iscAbsY w) := ⟨rfl, rfl⟩
theorem FormatFits.nopAbsXFC (w : Word) : FormatFits.Statement (.nopAbsXFC w) := ⟨rfl, rfl⟩
theorem FormatFits.sbcAbsX (w : Word) : FormatFits.Statement (.sbcAbsX w) := ⟨rfl, rfl⟩
theorem FormatFits.incAbsX (w : Word) : FormatFits.Statement (.incAbsX w) := ⟨rfl, rfl⟩
theorem FormatFits.iscAbsX (w : Word) : FormatFits.Statement (.iscAbsX w) := ⟨rfl, rfl⟩
theorem FormatFits.brk : FormatFits.Statement .brk := ⟨rfl, rfl⟩
theorem FormatFits.jam02 : FormatFits.Statement .jam02 := ⟨rfl, rfl⟩
theorem FormatFits.php : FormatFits.Statement .php := ⟨rfl, rfl⟩
theorem FormatFits.aslAcc : FormatFits.Statement .aslAcc := ⟨rfl, rfl⟩
theorem FormatFits.jam12 : FormatFits.Statement .jam12 := ⟨rfl, rfl⟩
theorem FormatFits.clc : FormatFits.Statement .clc := ⟨rfl, rfl⟩
theorem FormatFits.nop1A : FormatFits.Statement .nop1A := ⟨rfl, rfl⟩
theorem FormatFits.jam22 : FormatFits.Statement .jam22 := ⟨rfl, rfl⟩
theorem FormatFits.plp : FormatFits.Statement .plp := ⟨rfl, rfl⟩
theorem FormatFits.rolAcc : FormatFits.Statement .rolAcc := ⟨rfl, rfl⟩
theorem FormatFits.jam32 : FormatFits.Statement .jam32 := ⟨rfl, rfl⟩
theorem FormatFits.sec : FormatFits.Statement .sec := ⟨rfl, rfl⟩
theorem FormatFits.nop3A : FormatFits.Statement .nop3A := ⟨rfl, rfl⟩
theorem FormatFits.rti : FormatFits.Statement .rti := ⟨rfl, rfl⟩
theorem FormatFits.jam42 : FormatFits.Statement .jam42 := ⟨rfl, rfl⟩
theorem FormatFits.pha : FormatFits.Statement .pha := ⟨rfl, rfl⟩
theorem FormatFits.lsrAcc : FormatFits.Statement .lsrAcc := ⟨rfl, rfl⟩
theorem FormatFits.jam52 : FormatFits.Statement .jam52 := ⟨rfl, rfl⟩
theorem FormatFits.cli : FormatFits.Statement .cli := ⟨rfl, rfl⟩
theorem FormatFits.nop5A : FormatFits.Statement .nop5A := ⟨rfl, rfl⟩
theorem FormatFits.rts : FormatFits.Statement .rts := ⟨rfl, rfl⟩
theorem FormatFits.jam62 : FormatFits.Statement .jam62 := ⟨rfl, rfl⟩
theorem FormatFits.pla : FormatFits.Statement .pla := ⟨rfl, rfl⟩
theorem FormatFits.rorAcc : FormatFits.Statement .rorAcc := ⟨rfl, rfl⟩
theorem FormatFits.jam72 : FormatFits.Statement .jam72 := ⟨rfl, rfl⟩
theorem FormatFits.sei : FormatFits.Statement .sei := ⟨rfl, rfl⟩
theorem FormatFits.nop7A : FormatFits.Statement .nop7A := ⟨rfl, rfl⟩
theorem FormatFits.dey : FormatFits.Statement .dey := ⟨rfl, rfl⟩
theorem FormatFits.txa : FormatFits.Statement .txa := ⟨rfl, rfl⟩
theorem FormatFits.jam92 : FormatFits.Statement .jam92 := ⟨rfl, rfl⟩
theorem FormatFits.tya : FormatFits.Statement .tya := ⟨rfl, rfl⟩
theorem FormatFits.txs : FormatFits.Statement .txs := ⟨rfl, rfl⟩
theorem FormatFits.tay : FormatFits.Statement .tay := ⟨rfl, rfl⟩
theorem FormatFits.tax : FormatFits.Statement .tax := ⟨rfl, rfl⟩
theorem FormatFits.jamB2 : FormatFits.Statement .jamB2 := ⟨rfl, rfl⟩
theorem FormatFits.clv : FormatFits.Statement .clv := ⟨rfl, rfl⟩
theorem FormatFits.tsx : FormatFits.Statement .tsx := ⟨rfl, rfl⟩
theorem FormatFits.iny : FormatFits.Statement .iny := ⟨rfl, rfl⟩
theorem FormatFits.dex : FormatFits.Statement .dex := ⟨rfl, rfl⟩
theorem FormatFits.jamD2 : FormatFits.Statement .jamD2 := ⟨rfl, rfl⟩
theorem FormatFits.cld : FormatFits.Statement .cld := ⟨rfl, rfl⟩
theorem FormatFits.nopDA : FormatFits.Statement .nopDA := ⟨rfl, rfl⟩
theorem FormatFits.inx : FormatFits.Statement .inx := ⟨rfl, rfl⟩
theorem FormatFits.nop : FormatFits.Statement .nop := ⟨rfl, rfl⟩
theorem FormatFits.jamF2 : FormatFits.Statement .jamF2 := ⟨rfl, rfl⟩
theorem FormatFits.sed : FormatFits.Statement .sed := ⟨rfl, rfl⟩
theorem FormatFits.nopFA : FormatFits.Statement .nopFA := ⟨rfl, rfl⟩

end Sys2Proof.Laws
end

