-- ==== Sys2Proof/Tests/Slice0.lean ====
section
/-! SUPPORT. The model's own tests. Every expected value comes from spec/: the opcode table, the vectors V of 95_test_vectors.md (their number is in the test's name), its examples E, or the operand and flag rules. -/

namespace Sys2Proof.Tests

open Sys2Proof Sys2Proof.Machine

/-! Well-formedness refuses an operand that does not fit its mode. -/

theorem test_implied_takes_no_byte : Mode.fits .imp (.byte 0x00) = false := by decide
theorem test_accumulator_takes_no_word : Mode.fits .acc (.word 0x0000) = false := by decide
theorem test_immediate_needs_a_byte : Mode.fits .imm .none = false := by decide
theorem test_relative_takes_no_word : Mode.fits .rel (.word 0x0000) = false := by decide
theorem test_zero_page_takes_no_word : Mode.fits .zp (.word 0x0010) = false := by decide
theorem test_absolute_needs_two_bytes : Mode.fits .abs (.byte 0x10) = false := by decide
theorem test_indirect_needs_an_operand : Mode.fits .ind .none = false := by decide
theorem test_instruction_is_well_formed : Instr.wellFormed (.jmpInd 0x10FF) = true := by decide

/-! Decoding. -/

theorem test_decode_nothing : decode [] = .error .noOpcode := by decide
theorem test_decode_truncated_word : decode [0x8D, 0x34] = .error (.truncatedOperand 0x8D) := by decide
theorem test_decode_truncated_byte : decode [0xA9] = .error (.truncatedOperand 0xA9) := by decide
theorem test_decode_leaves_the_rest : decode [0xA9, 0x01, 0x99, 0x02, 0x00] = .ok (.ldaImm 0x01, [0x99, 0x02, 0x00]) := by decide
theorem test_encode_low_byte_first : encode (.staAbsY 0x1234) = [0x99, 0x34, 0x12] := by decide

/-! One word of each family, bit by bit: the opcode of its row, then the operand bytes (R91, R92). -/

theorem test_words_bit_by_bit_documented :
    decode [0b01101001, 0b00000001] = .ok (.adcImm 0x01, []) ∧
    decode [0b00100100, 0b00010000] = .ok (.bitZp 0x10, []) ∧
    decode [0b00001010] = .ok (.aslAcc, []) ∧
    decode [0b11001100, 0b00110100, 0b00010010] = .ok (.cpyAbs 0x1234, []) ∧
    decode [0b11110110, 0b11111111] = .ok (.incZpX 0xFF, []) ∧
    decode [0b10110001, 0b11111111] = .ok (.ldaIndY 0xFF, []) ∧
    decode [0b00001000] = .ok (.php, []) := by decide
theorem test_words_bit_by_bit_the_rest :
    decode [0b01101100, 0b11111111, 0b00010000] = .ok (.jmpInd 0x10FF, []) ∧
    decode [0b11010000, 0b11111110] = .ok (.bne 0xFE, []) ∧
    decode [0b00000111, 0b00010000] = .ok (.sloZp 0x10, []) ∧
    decode [0b10011110, 0b11110000, 0b00010010] = .ok (.shxAbsY 0x12F0, []) ∧
    decode [0b10100001, 0b11111110] = .ok (.ldaIndX 0xFE, []) ∧
    decode [0b10110110, 0b11111111] = .ok (.ldxZpY 0xFF, []) ∧
    decode [0b01111110, 0b00110100, 0b00010010] = .ok (.rorAbsX 0x1234, []) := by decide

/-! Every row of the opcode table (30_encoding.md section 2), with the operand bytes 0x42 and 0x13. -/

theorem test_decode_row0_low :
    decode [0x00] = .ok (.brk, []) ∧
    decode [0x01, 0x42] = .ok (.oraIndX 0x42, []) ∧
    decode [0x02] = .ok (.jam02, []) ∧
    decode [0x03, 0x42] = .ok (.sloIndX 0x42, []) ∧
    decode [0x04, 0x42] = .ok (.nopZp04 0x42, []) ∧
    decode [0x05, 0x42] = .ok (.oraZp 0x42, []) ∧
    decode [0x06, 0x42] = .ok (.aslZp 0x42, []) ∧
    decode [0x07, 0x42] = .ok (.sloZp 0x42, []) := by decide

theorem test_decode_row0_high :
    decode [0x08] = .ok (.php, []) ∧
    decode [0x09, 0x42] = .ok (.oraImm 0x42, []) ∧
    decode [0x0A] = .ok (.aslAcc, []) ∧
    decode [0x0B, 0x42] = .ok (.ancImm0B 0x42, []) ∧
    decode [0x0C, 0x42, 0x13] = .ok (.nopAbs 0x1342, []) ∧
    decode [0x0D, 0x42, 0x13] = .ok (.oraAbs 0x1342, []) ∧
    decode [0x0E, 0x42, 0x13] = .ok (.aslAbs 0x1342, []) ∧
    decode [0x0F, 0x42, 0x13] = .ok (.sloAbs 0x1342, []) := by decide

theorem test_decode_row1_low :
    decode [0x10, 0x42] = .ok (.bpl 0x42, []) ∧
    decode [0x11, 0x42] = .ok (.oraIndY 0x42, []) ∧
    decode [0x12] = .ok (.jam12, []) ∧
    decode [0x13, 0x42] = .ok (.sloIndY 0x42, []) ∧
    decode [0x14, 0x42] = .ok (.nopZpX14 0x42, []) ∧
    decode [0x15, 0x42] = .ok (.oraZpX 0x42, []) ∧
    decode [0x16, 0x42] = .ok (.aslZpX 0x42, []) ∧
    decode [0x17, 0x42] = .ok (.sloZpX 0x42, []) := by decide

theorem test_decode_row1_high :
    decode [0x18] = .ok (.clc, []) ∧
    decode [0x19, 0x42, 0x13] = .ok (.oraAbsY 0x1342, []) ∧
    decode [0x1A] = .ok (.nop1A, []) ∧
    decode [0x1B, 0x42, 0x13] = .ok (.sloAbsY 0x1342, []) ∧
    decode [0x1C, 0x42, 0x13] = .ok (.nopAbsX1C 0x1342, []) ∧
    decode [0x1D, 0x42, 0x13] = .ok (.oraAbsX 0x1342, []) ∧
    decode [0x1E, 0x42, 0x13] = .ok (.aslAbsX 0x1342, []) ∧
    decode [0x1F, 0x42, 0x13] = .ok (.sloAbsX 0x1342, []) := by decide

theorem test_decode_row2_low :
    decode [0x20, 0x42, 0x13] = .ok (.jsrAbs 0x1342, []) ∧
    decode [0x21, 0x42] = .ok (.andIndX 0x42, []) ∧
    decode [0x22] = .ok (.jam22, []) ∧
    decode [0x23, 0x42] = .ok (.rlaIndX 0x42, []) ∧
    decode [0x24, 0x42] = .ok (.bitZp 0x42, []) ∧
    decode [0x25, 0x42] = .ok (.andZp 0x42, []) ∧
    decode [0x26, 0x42] = .ok (.rolZp 0x42, []) ∧
    decode [0x27, 0x42] = .ok (.rlaZp 0x42, []) := by decide

theorem test_decode_row2_high :
    decode [0x28] = .ok (.plp, []) ∧
    decode [0x29, 0x42] = .ok (.andImm 0x42, []) ∧
    decode [0x2A] = .ok (.rolAcc, []) ∧
    decode [0x2B, 0x42] = .ok (.ancImm2B 0x42, []) ∧
    decode [0x2C, 0x42, 0x13] = .ok (.bitAbs 0x1342, []) ∧
    decode [0x2D, 0x42, 0x13] = .ok (.andAbs 0x1342, []) ∧
    decode [0x2E, 0x42, 0x13] = .ok (.rolAbs 0x1342, []) ∧
    decode [0x2F, 0x42, 0x13] = .ok (.rlaAbs 0x1342, []) := by decide

theorem test_decode_row3_low :
    decode [0x30, 0x42] = .ok (.bmi 0x42, []) ∧
    decode [0x31, 0x42] = .ok (.andIndY 0x42, []) ∧
    decode [0x32] = .ok (.jam32, []) ∧
    decode [0x33, 0x42] = .ok (.rlaIndY 0x42, []) ∧
    decode [0x34, 0x42] = .ok (.nopZpX34 0x42, []) ∧
    decode [0x35, 0x42] = .ok (.andZpX 0x42, []) ∧
    decode [0x36, 0x42] = .ok (.rolZpX 0x42, []) ∧
    decode [0x37, 0x42] = .ok (.rlaZpX 0x42, []) := by decide

theorem test_decode_row3_high :
    decode [0x38] = .ok (.sec, []) ∧
    decode [0x39, 0x42, 0x13] = .ok (.andAbsY 0x1342, []) ∧
    decode [0x3A] = .ok (.nop3A, []) ∧
    decode [0x3B, 0x42, 0x13] = .ok (.rlaAbsY 0x1342, []) ∧
    decode [0x3C, 0x42, 0x13] = .ok (.nopAbsX3C 0x1342, []) ∧
    decode [0x3D, 0x42, 0x13] = .ok (.andAbsX 0x1342, []) ∧
    decode [0x3E, 0x42, 0x13] = .ok (.rolAbsX 0x1342, []) ∧
    decode [0x3F, 0x42, 0x13] = .ok (.rlaAbsX 0x1342, []) := by decide

theorem test_decode_row4_low :
    decode [0x40] = .ok (.rti, []) ∧
    decode [0x41, 0x42] = .ok (.eorIndX 0x42, []) ∧
    decode [0x42] = .ok (.jam42, []) ∧
    decode [0x43, 0x42] = .ok (.sreIndX 0x42, []) ∧
    decode [0x44, 0x42] = .ok (.nopZp44 0x42, []) ∧
    decode [0x45, 0x42] = .ok (.eorZp 0x42, []) ∧
    decode [0x46, 0x42] = .ok (.lsrZp 0x42, []) ∧
    decode [0x47, 0x42] = .ok (.sreZp 0x42, []) := by decide

theorem test_decode_row4_high :
    decode [0x48] = .ok (.pha, []) ∧
    decode [0x49, 0x42] = .ok (.eorImm 0x42, []) ∧
    decode [0x4A] = .ok (.lsrAcc, []) ∧
    decode [0x4B, 0x42] = .ok (.alrImm 0x42, []) ∧
    decode [0x4C, 0x42, 0x13] = .ok (.jmpAbs 0x1342, []) ∧
    decode [0x4D, 0x42, 0x13] = .ok (.eorAbs 0x1342, []) ∧
    decode [0x4E, 0x42, 0x13] = .ok (.lsrAbs 0x1342, []) ∧
    decode [0x4F, 0x42, 0x13] = .ok (.sreAbs 0x1342, []) := by decide

theorem test_decode_row5_low :
    decode [0x50, 0x42] = .ok (.bvc 0x42, []) ∧
    decode [0x51, 0x42] = .ok (.eorIndY 0x42, []) ∧
    decode [0x52] = .ok (.jam52, []) ∧
    decode [0x53, 0x42] = .ok (.sreIndY 0x42, []) ∧
    decode [0x54, 0x42] = .ok (.nopZpX54 0x42, []) ∧
    decode [0x55, 0x42] = .ok (.eorZpX 0x42, []) ∧
    decode [0x56, 0x42] = .ok (.lsrZpX 0x42, []) ∧
    decode [0x57, 0x42] = .ok (.sreZpX 0x42, []) := by decide

theorem test_decode_row5_high :
    decode [0x58] = .ok (.cli, []) ∧
    decode [0x59, 0x42, 0x13] = .ok (.eorAbsY 0x1342, []) ∧
    decode [0x5A] = .ok (.nop5A, []) ∧
    decode [0x5B, 0x42, 0x13] = .ok (.sreAbsY 0x1342, []) ∧
    decode [0x5C, 0x42, 0x13] = .ok (.nopAbsX5C 0x1342, []) ∧
    decode [0x5D, 0x42, 0x13] = .ok (.eorAbsX 0x1342, []) ∧
    decode [0x5E, 0x42, 0x13] = .ok (.lsrAbsX 0x1342, []) ∧
    decode [0x5F, 0x42, 0x13] = .ok (.sreAbsX 0x1342, []) := by decide

theorem test_decode_row6_low :
    decode [0x60] = .ok (.rts, []) ∧
    decode [0x61, 0x42] = .ok (.adcIndX 0x42, []) ∧
    decode [0x62] = .ok (.jam62, []) ∧
    decode [0x63, 0x42] = .ok (.rraIndX 0x42, []) ∧
    decode [0x64, 0x42] = .ok (.nopZp64 0x42, []) ∧
    decode [0x65, 0x42] = .ok (.adcZp 0x42, []) ∧
    decode [0x66, 0x42] = .ok (.rorZp 0x42, []) ∧
    decode [0x67, 0x42] = .ok (.rraZp 0x42, []) := by decide

theorem test_decode_row6_high :
    decode [0x68] = .ok (.pla, []) ∧
    decode [0x69, 0x42] = .ok (.adcImm 0x42, []) ∧
    decode [0x6A] = .ok (.rorAcc, []) ∧
    decode [0x6B, 0x42] = .ok (.arrImm 0x42, []) ∧
    decode [0x6C, 0x42, 0x13] = .ok (.jmpInd 0x1342, []) ∧
    decode [0x6D, 0x42, 0x13] = .ok (.adcAbs 0x1342, []) ∧
    decode [0x6E, 0x42, 0x13] = .ok (.rorAbs 0x1342, []) ∧
    decode [0x6F, 0x42, 0x13] = .ok (.rraAbs 0x1342, []) := by decide

theorem test_decode_row7_low :
    decode [0x70, 0x42] = .ok (.bvs 0x42, []) ∧
    decode [0x71, 0x42] = .ok (.adcIndY 0x42, []) ∧
    decode [0x72] = .ok (.jam72, []) ∧
    decode [0x73, 0x42] = .ok (.rraIndY 0x42, []) ∧
    decode [0x74, 0x42] = .ok (.nopZpX74 0x42, []) ∧
    decode [0x75, 0x42] = .ok (.adcZpX 0x42, []) ∧
    decode [0x76, 0x42] = .ok (.rorZpX 0x42, []) ∧
    decode [0x77, 0x42] = .ok (.rraZpX 0x42, []) := by decide

theorem test_decode_row7_high :
    decode [0x78] = .ok (.sei, []) ∧
    decode [0x79, 0x42, 0x13] = .ok (.adcAbsY 0x1342, []) ∧
    decode [0x7A] = .ok (.nop7A, []) ∧
    decode [0x7B, 0x42, 0x13] = .ok (.rraAbsY 0x1342, []) ∧
    decode [0x7C, 0x42, 0x13] = .ok (.nopAbsX7C 0x1342, []) ∧
    decode [0x7D, 0x42, 0x13] = .ok (.adcAbsX 0x1342, []) ∧
    decode [0x7E, 0x42, 0x13] = .ok (.rorAbsX 0x1342, []) ∧
    decode [0x7F, 0x42, 0x13] = .ok (.rraAbsX 0x1342, []) := by decide

theorem test_decode_row8_low :
    decode [0x80, 0x42] = .ok (.nopImm80 0x42, []) ∧
    decode [0x81, 0x42] = .ok (.staIndX 0x42, []) ∧
    decode [0x82, 0x42] = .ok (.nopImm82 0x42, []) ∧
    decode [0x83, 0x42] = .ok (.saxIndX 0x42, []) ∧
    decode [0x84, 0x42] = .ok (.styZp 0x42, []) ∧
    decode [0x85, 0x42] = .ok (.staZp 0x42, []) ∧
    decode [0x86, 0x42] = .ok (.stxZp 0x42, []) ∧
    decode [0x87, 0x42] = .ok (.saxZp 0x42, []) := by decide

theorem test_decode_row8_high :
    decode [0x88] = .ok (.dey, []) ∧
    decode [0x89, 0x42] = .ok (.nopImm89 0x42, []) ∧
    decode [0x8A] = .ok (.txa, []) ∧
    decode [0x8B, 0x42] = .ok (.aneImm 0x42, []) ∧
    decode [0x8C, 0x42, 0x13] = .ok (.styAbs 0x1342, []) ∧
    decode [0x8D, 0x42, 0x13] = .ok (.staAbs 0x1342, []) ∧
    decode [0x8E, 0x42, 0x13] = .ok (.stxAbs 0x1342, []) ∧
    decode [0x8F, 0x42, 0x13] = .ok (.saxAbs 0x1342, []) := by decide

theorem test_decode_row9_low :
    decode [0x90, 0x42] = .ok (.bcc 0x42, []) ∧
    decode [0x91, 0x42] = .ok (.staIndY 0x42, []) ∧
    decode [0x92] = .ok (.jam92, []) ∧
    decode [0x93, 0x42] = .ok (.shaIndY 0x42, []) ∧
    decode [0x94, 0x42] = .ok (.styZpX 0x42, []) ∧
    decode [0x95, 0x42] = .ok (.staZpX 0x42, []) ∧
    decode [0x96, 0x42] = .ok (.stxZpY 0x42, []) ∧
    decode [0x97, 0x42] = .ok (.saxZpY 0x42, []) := by decide

theorem test_decode_row9_high :
    decode [0x98] = .ok (.tya, []) ∧
    decode [0x99, 0x42, 0x13] = .ok (.staAbsY 0x1342, []) ∧
    decode [0x9A] = .ok (.txs, []) ∧
    decode [0x9B, 0x42, 0x13] = .ok (.tasAbsY 0x1342, []) ∧
    decode [0x9C, 0x42, 0x13] = .ok (.shyAbsX 0x1342, []) ∧
    decode [0x9D, 0x42, 0x13] = .ok (.staAbsX 0x1342, []) ∧
    decode [0x9E, 0x42, 0x13] = .ok (.shxAbsY 0x1342, []) ∧
    decode [0x9F, 0x42, 0x13] = .ok (.shaAbsY 0x1342, []) := by decide

theorem test_decode_rowA_low :
    decode [0xA0, 0x42] = .ok (.ldyImm 0x42, []) ∧
    decode [0xA1, 0x42] = .ok (.ldaIndX 0x42, []) ∧
    decode [0xA2, 0x42] = .ok (.ldxImm 0x42, []) ∧
    decode [0xA3, 0x42] = .ok (.laxIndX 0x42, []) ∧
    decode [0xA4, 0x42] = .ok (.ldyZp 0x42, []) ∧
    decode [0xA5, 0x42] = .ok (.ldaZp 0x42, []) ∧
    decode [0xA6, 0x42] = .ok (.ldxZp 0x42, []) ∧
    decode [0xA7, 0x42] = .ok (.laxZp 0x42, []) := by decide

theorem test_decode_rowA_high :
    decode [0xA8] = .ok (.tay, []) ∧
    decode [0xA9, 0x42] = .ok (.ldaImm 0x42, []) ∧
    decode [0xAA] = .ok (.tax, []) ∧
    decode [0xAB, 0x42] = .ok (.lxaImm 0x42, []) ∧
    decode [0xAC, 0x42, 0x13] = .ok (.ldyAbs 0x1342, []) ∧
    decode [0xAD, 0x42, 0x13] = .ok (.ldaAbs 0x1342, []) ∧
    decode [0xAE, 0x42, 0x13] = .ok (.ldxAbs 0x1342, []) ∧
    decode [0xAF, 0x42, 0x13] = .ok (.laxAbs 0x1342, []) := by decide

theorem test_decode_rowB_low :
    decode [0xB0, 0x42] = .ok (.bcs 0x42, []) ∧
    decode [0xB1, 0x42] = .ok (.ldaIndY 0x42, []) ∧
    decode [0xB2] = .ok (.jamB2, []) ∧
    decode [0xB3, 0x42] = .ok (.laxIndY 0x42, []) ∧
    decode [0xB4, 0x42] = .ok (.ldyZpX 0x42, []) ∧
    decode [0xB5, 0x42] = .ok (.ldaZpX 0x42, []) ∧
    decode [0xB6, 0x42] = .ok (.ldxZpY 0x42, []) ∧
    decode [0xB7, 0x42] = .ok (.laxZpY 0x42, []) := by decide

theorem test_decode_rowB_high :
    decode [0xB8] = .ok (.clv, []) ∧
    decode [0xB9, 0x42, 0x13] = .ok (.ldaAbsY 0x1342, []) ∧
    decode [0xBA] = .ok (.tsx, []) ∧
    decode [0xBB, 0x42, 0x13] = .ok (.lasAbsY 0x1342, []) ∧
    decode [0xBC, 0x42, 0x13] = .ok (.ldyAbsX 0x1342, []) ∧
    decode [0xBD, 0x42, 0x13] = .ok (.ldaAbsX 0x1342, []) ∧
    decode [0xBE, 0x42, 0x13] = .ok (.ldxAbsY 0x1342, []) ∧
    decode [0xBF, 0x42, 0x13] = .ok (.laxAbsY 0x1342, []) := by decide

theorem test_decode_rowC_low :
    decode [0xC0, 0x42] = .ok (.cpyImm 0x42, []) ∧
    decode [0xC1, 0x42] = .ok (.cmpIndX 0x42, []) ∧
    decode [0xC2, 0x42] = .ok (.nopImmC2 0x42, []) ∧
    decode [0xC3, 0x42] = .ok (.dcpIndX 0x42, []) ∧
    decode [0xC4, 0x42] = .ok (.cpyZp 0x42, []) ∧
    decode [0xC5, 0x42] = .ok (.cmpZp 0x42, []) ∧
    decode [0xC6, 0x42] = .ok (.decZp 0x42, []) ∧
    decode [0xC7, 0x42] = .ok (.dcpZp 0x42, []) := by decide

theorem test_decode_rowC_high :
    decode [0xC8] = .ok (.iny, []) ∧
    decode [0xC9, 0x42] = .ok (.cmpImm 0x42, []) ∧
    decode [0xCA] = .ok (.dex, []) ∧
    decode [0xCB, 0x42] = .ok (.sbxImm 0x42, []) ∧
    decode [0xCC, 0x42, 0x13] = .ok (.cpyAbs 0x1342, []) ∧
    decode [0xCD, 0x42, 0x13] = .ok (.cmpAbs 0x1342, []) ∧
    decode [0xCE, 0x42, 0x13] = .ok (.decAbs 0x1342, []) ∧
    decode [0xCF, 0x42, 0x13] = .ok (.dcpAbs 0x1342, []) := by decide

theorem test_decode_rowD_low :
    decode [0xD0, 0x42] = .ok (.bne 0x42, []) ∧
    decode [0xD1, 0x42] = .ok (.cmpIndY 0x42, []) ∧
    decode [0xD2] = .ok (.jamD2, []) ∧
    decode [0xD3, 0x42] = .ok (.dcpIndY 0x42, []) ∧
    decode [0xD4, 0x42] = .ok (.nopZpXD4 0x42, []) ∧
    decode [0xD5, 0x42] = .ok (.cmpZpX 0x42, []) ∧
    decode [0xD6, 0x42] = .ok (.decZpX 0x42, []) ∧
    decode [0xD7, 0x42] = .ok (.dcpZpX 0x42, []) := by decide

theorem test_decode_rowD_high :
    decode [0xD8] = .ok (.cld, []) ∧
    decode [0xD9, 0x42, 0x13] = .ok (.cmpAbsY 0x1342, []) ∧
    decode [0xDA] = .ok (.nopDA, []) ∧
    decode [0xDB, 0x42, 0x13] = .ok (.dcpAbsY 0x1342, []) ∧
    decode [0xDC, 0x42, 0x13] = .ok (.nopAbsXDC 0x1342, []) ∧
    decode [0xDD, 0x42, 0x13] = .ok (.cmpAbsX 0x1342, []) ∧
    decode [0xDE, 0x42, 0x13] = .ok (.decAbsX 0x1342, []) ∧
    decode [0xDF, 0x42, 0x13] = .ok (.dcpAbsX 0x1342, []) := by decide

theorem test_decode_rowE_low :
    decode [0xE0, 0x42] = .ok (.cpxImm 0x42, []) ∧
    decode [0xE1, 0x42] = .ok (.sbcIndX 0x42, []) ∧
    decode [0xE2, 0x42] = .ok (.nopImmE2 0x42, []) ∧
    decode [0xE3, 0x42] = .ok (.iscIndX 0x42, []) ∧
    decode [0xE4, 0x42] = .ok (.cpxZp 0x42, []) ∧
    decode [0xE5, 0x42] = .ok (.sbcZp 0x42, []) ∧
    decode [0xE6, 0x42] = .ok (.incZp 0x42, []) ∧
    decode [0xE7, 0x42] = .ok (.iscZp 0x42, []) := by decide

theorem test_decode_rowE_high :
    decode [0xE8] = .ok (.inx, []) ∧
    decode [0xE9, 0x42] = .ok (.sbcImm 0x42, []) ∧
    decode [0xEA] = .ok (.nop, []) ∧
    decode [0xEB, 0x42] = .ok (.sbcImmEB 0x42, []) ∧
    decode [0xEC, 0x42, 0x13] = .ok (.cpxAbs 0x1342, []) ∧
    decode [0xED, 0x42, 0x13] = .ok (.sbcAbs 0x1342, []) ∧
    decode [0xEE, 0x42, 0x13] = .ok (.incAbs 0x1342, []) ∧
    decode [0xEF, 0x42, 0x13] = .ok (.iscAbs 0x1342, []) := by decide

theorem test_decode_rowF_low :
    decode [0xF0, 0x42] = .ok (.beq 0x42, []) ∧
    decode [0xF1, 0x42] = .ok (.sbcIndY 0x42, []) ∧
    decode [0xF2] = .ok (.jamF2, []) ∧
    decode [0xF3, 0x42] = .ok (.iscIndY 0x42, []) ∧
    decode [0xF4, 0x42] = .ok (.nopZpXF4 0x42, []) ∧
    decode [0xF5, 0x42] = .ok (.sbcZpX 0x42, []) ∧
    decode [0xF6, 0x42] = .ok (.incZpX 0x42, []) ∧
    decode [0xF7, 0x42] = .ok (.iscZpX 0x42, []) := by decide

theorem test_decode_rowF_high :
    decode [0xF8] = .ok (.sed, []) ∧
    decode [0xF9, 0x42, 0x13] = .ok (.sbcAbsY 0x1342, []) ∧
    decode [0xFA] = .ok (.nopFA, []) ∧
    decode [0xFB, 0x42, 0x13] = .ok (.iscAbsY 0x1342, []) ∧
    decode [0xFC, 0x42, 0x13] = .ok (.nopAbsXFC 0x1342, []) ∧
    decode [0xFD, 0x42, 0x13] = .ok (.sbcAbsX 0x1342, []) ∧
    decode [0xFE, 0x42, 0x13] = .ok (.incAbsX 0x1342, []) ∧
    decode [0xFF, 0x42, 0x13] = .ok (.iscAbsX 0x1342, []) := by decide

/-! One step each, from the vectors. -/

/-- All six flags 0. -/
def noFlags : Flags := { c := false, z := false, i := false, d := false, v := false, n := false }

/-- The state before a vector (95_test_vectors.md section 2). -/
def start : State := { State.reset with pc := 0x0200, p := noFlags }

/-- Bytes of memory set by the setup of a vector. -/
def setCells (cells : List (Word × Byte)) (s : State) : State := cells.foldl (fun s c => s.store c.1 c.2) s

/-- The instruction bytes at PC, then the vector's own bytes. -/
def put (bytes : List Byte) (cells : List (Word × Byte)) (s : State) : State :=
  setCells cells (setCells ((List.range bytes.length).map (fun k => s.pc + BitVec.ofNat 16 k) |>.zip bytes) s)

/-- What a vector states: A, X, Y, S and PackP(0); PC; the bytes at some addresses; the cycles. -/
def view (addresses : List Word) : Result → Option (List Byte × Word × List Byte × Nat)
  | .next t => some ([t.a, t.x, t.y, t.sp, t.p.pack false], t.pc, addresses.map t.read, t.clockResult.getD 0)
  | _ => none

theorem test_adc_V2 : view [] (step (put [0x69, 0x01] [] { start with a := 0x7F })) =
    some ([0x80, 0x00, 0x00, 0xFD, 0xE0], 0x0202, [], 2) := by decide

theorem test_adc_V8 : view [] (step (put [0x71, 0x10] [(0x0010, 0xF8), (0x0011, 0x12), (0x1308, 0x02)] { start with a := 0x01, y := 0x10 })) =
    some ([0x03, 0x00, 0x10, 0xFD, 0x20], 0x0202, [], 5) := by decide

theorem test_alr_V111 : view [] (step (put [0x4B, 0x03] [] { start with a := 0xFF })) =
    some ([0x01, 0x00, 0x00, 0xFD, 0x21], 0x0202, [], 2) := by decide

theorem test_anc_V109 : view [] (step (put [0x0B, 0x80] [] { start with a := 0xFF })) =
    some ([0x80, 0x00, 0x00, 0xFD, 0xA1], 0x0202, [], 2) := by decide

theorem test_anc_V110 : view [] (step (put [0x2B, 0x7F] [] { start with a := 0xFF, p := { noFlags with c := true } })) =
    some ([0x7F, 0x00, 0x00, 0xFD, 0x20], 0x0202, [], 2) := by decide

theorem test_and_V15 : view [] (step (put [0x29, 0x0F] [] { start with a := 0xF0 })) =
    some ([0x00, 0x00, 0x00, 0xFD, 0x22], 0x0202, [], 2) := by decide

theorem test_and_V16 : view [] (step (put [0x29, 0x80] [] { start with a := 0xFF, p := { noFlags with c := true, v := true } })) =
    some ([0x80, 0x00, 0x00, 0xFD, 0xE1], 0x0202, [], 2) := by decide

theorem test_ane_V115 : view [] (step (put [0x8B, 0x3C] [] { start with x := 0xF0 })) =
    some ([0x30, 0xF0, 0x00, 0xFD, 0x20], 0x0202, [], 2) := by decide

theorem test_arr_V113 : view [] (step (put [0x6B, 0x80] [] { start with a := 0x80 })) =
    some ([0x40, 0x00, 0x00, 0xFD, 0x61], 0x0202, [], 2) := by decide

theorem test_arr_V114 : view [] (step (put [0x6B, 0xFF] [] { start with a := 0xFF, p := { noFlags with c := true } })) =
    some ([0xFF, 0x00, 0x00, 0xFD, 0xA1], 0x0202, [], 2) := by decide

theorem test_asl_V23 : view [] (step (put [0x0A] [] { start with a := 0x80 })) =
    some ([0x00, 0x00, 0x00, 0xFD, 0x23], 0x0201, [], 2) := by decide

theorem test_asl_V24 : view [] (step (put [0x0A] [] { start with a := 0xC1 })) =
    some ([0x82, 0x00, 0x00, 0xFD, 0xA1], 0x0201, [], 2) := by decide

theorem test_bcc_V86 : view [] (step (put [0x90, 0x05] [] { start with pc := 0x0300 })) =
    some ([0x00, 0x00, 0x00, 0xFD, 0x20], 0x0307, [], 2) := by decide

theorem test_bcs_V87 : view [] (step (put [0xB0, 0x05] [] { start with pc := 0x0300 })) =
    some ([0x00, 0x00, 0x00, 0xFD, 0x20], 0x0302, [], 2) := by decide

theorem test_beq_V88 : view [] (step (put [0xF0, 0x80] [] { start with pc := 0x0300, p := { noFlags with z := true } })) =
    some ([0x00, 0x00, 0x00, 0xFD, 0x22], 0x0282, [], 2) := by decide

theorem test_bit_V21 : view [] (step (put [0x24, 0x10] [(0x0010, 0xC0)] { start with a := 0x01 })) =
    some ([0x01, 0x00, 0x00, 0xFD, 0xE2], 0x0202, [], 3) := by decide

theorem test_bit_V22 : view [] (step (put [0x2C, 0x34, 0x12] [(0x1234, 0x3F)] { start with a := 0xFF, p := { noFlags with v := true, n := true } })) =
    some ([0xFF, 0x00, 0x00, 0xFD, 0x20], 0x0203, [], 4) := by decide

theorem test_bmi_V89 : view [] (step (put [0x30, 0x7F] [] { start with pc := 0x0300, p := { noFlags with n := true } })) =
    some ([0x00, 0x00, 0x00, 0xFD, 0xA0], 0x0381, [], 2) := by decide

theorem test_bne_V90 : view [] (step (put [0xD0, 0xFE] [] { start with pc := 0x0300 })) =
    some ([0x00, 0x00, 0x00, 0xFD, 0x20], 0x0300, [], 2) := by decide

theorem test_bpl_V91 : view [] (step (put [0x10, 0x10] [] { start with pc := 0xFFF0 })) =
    some ([0x00, 0x00, 0x00, 0xFD, 0x20], 0x0002, [], 2) := by decide

theorem test_brk_V94 : view [0x01FB, 0x01FC, 0x01FD] (step (put [0x00, 0xEA] [(0xFFFE, 0x00), (0xFFFF, 0x80)] { start with pc := 0x0400, p := { noFlags with c := true } })) =
    some ([0x00, 0x00, 0x00, 0xFA, 0x25], 0x8000, [0x31, 0x02, 0x04], 7) := by decide

theorem test_brk_V95 : view [0x0100, 0x0101, 0x01FF] (step (put [0x00, 0x00] [(0xFFFE, 0x00), (0xFFFF, 0x80)] { start with sp := 0x01, pc := 0x0400 })) =
    some ([0x00, 0x00, 0x00, 0xFE, 0x24], 0x8000, [0x02, 0x04, 0x30], 7) := by decide

theorem test_bvc_V92 : view [] (step (put [0x50, 0x00] [] { start with pc := 0x0300 })) =
    some ([0x00, 0x00, 0x00, 0xFD, 0x20], 0x0302, [], 2) := by decide

theorem test_bvs_V93 : view [] (step (put [0x70, 0xF0] [] { start with pc := 0x0310, p := { noFlags with v := true } })) =
    some ([0x00, 0x00, 0x00, 0xFD, 0x60], 0x0302, [], 2) := by decide

theorem test_clc_V72 : view [] (step (put [0x18] [] { start with p := { noFlags with c := true } })) =
    some ([0x00, 0x00, 0x00, 0xFD, 0x20], 0x0201, [], 2) := by decide

theorem test_cld_V77 : view [] (step (put [0xD8] [] { start with p := { noFlags with d := true } })) =
    some ([0x00, 0x00, 0x00, 0xFD, 0x20], 0x0201, [], 2) := by decide

theorem test_cli_V74 : view [] (step (put [0x58] [] { start with p := { noFlags with i := true } })) =
    some ([0x00, 0x00, 0x00, 0xFD, 0x20], 0x0201, [], 2) := by decide

theorem test_clv_V76 : view [] (step (put [0xB8] [] { start with p := { noFlags with v := true } })) =
    some ([0x00, 0x00, 0x00, 0xFD, 0x20], 0x0201, [], 2) := by decide

theorem test_cmp_V33 : view [] (step (put [0xC9, 0x20] [] { start with a := 0x10 })) =
    some ([0x10, 0x00, 0x00, 0xFD, 0xA0], 0x0202, [], 2) := by decide

theorem test_cmp_V36 : view [] (step (put [0xC9, 0x00] [] { start with a := 0x80 })) =
    some ([0x80, 0x00, 0x00, 0xFD, 0xA1], 0x0202, [], 2) := by decide

theorem test_cpx_V38 : view [] (step (put [0xE0, 0x05] [] { start with x := 0x05 })) =
    some ([0x00, 0x05, 0x00, 0xFD, 0x23], 0x0202, [], 2) := by decide

theorem test_cpx_V39 : view [] (step (put [0xE4, 0x10] [(0x0010, 0x05)] { start with x := 0x06 })) =
    some ([0x00, 0x06, 0x00, 0xFD, 0x21], 0x0202, [], 3) := by decide

theorem test_cpy_V40 : view [] (step (put [0xC4, 0x10] [(0x0010, 0x01)] start)) =
    some ([0x00, 0x00, 0x00, 0xFD, 0xA0], 0x0202, [], 3) := by decide

theorem test_cpy_V41 : view [] (step (put [0xCC, 0x34, 0x12] [(0x1234, 0x10)] { start with y := 0x90 })) =
    some ([0x00, 0x00, 0x90, 0xFD, 0xA1], 0x0203, [], 4) := by decide

theorem test_dcp_V103 : view [0x0010] (step (put [0xC7, 0x10] [(0x0010, 0x41)] { start with a := 0x40 })) =
    some ([0x40, 0x00, 0x00, 0xFD, 0x23], 0x0202, [0x40], 5) := by decide

theorem test_dcp_V104 : view [0x0010] (step (put [0xC7, 0x10] [(0x0010, 0x00)] { start with a := 0x05 })) =
    some ([0x05, 0x00, 0x00, 0xFD, 0x20], 0x0202, [0xFF], 5) := by decide

theorem test_dec_V44 : view [0x1234] (step (put [0xCE, 0x34, 0x12] [] start)) =
    some ([0x00, 0x00, 0x00, 0xFD, 0xA0], 0x0203, [0xFF], 6) := by decide

theorem test_dec_V45 : view [0x0010] (step (put [0xC6, 0x10] [(0x0010, 0x01)] start)) =
    some ([0x00, 0x00, 0x00, 0xFD, 0x22], 0x0202, [0x00], 5) := by decide

theorem test_dex_V48 : view [] (step (put [0xCA] [] { start with x := 0x01 })) =
    some ([0x00, 0x00, 0x00, 0xFD, 0x22], 0x0201, [], 2) := by decide

theorem test_dey_V49 : view [] (step (put [0x88] [] start)) =
    some ([0x00, 0x00, 0xFF, 0xFD, 0xA0], 0x0201, [], 2) := by decide

theorem test_eor_V19 : view [] (step (put [0x49, 0xFF] [] { start with a := 0xFF })) =
    some ([0x00, 0x00, 0x00, 0xFD, 0x22], 0x0202, [], 2) := by decide

theorem test_eor_V20 : view [] (step (put [0x49, 0x0F] [] { start with a := 0xF0 })) =
    some ([0xFF, 0x00, 0x00, 0xFD, 0xA0], 0x0202, [], 2) := by decide

theorem test_inc_V42 : view [0x0010] (step (put [0xE6, 0x10] [(0x0010, 0xFF)] { start with p := { noFlags with c := true } })) =
    some ([0x00, 0x00, 0x00, 0xFD, 0x23], 0x0202, [0x00], 5) := by decide

theorem test_inc_V43 : view [0x0000] (step (put [0xF6, 0xFF] [(0x0000, 0x7F)] { start with x := 0x01 })) =
    some ([0x00, 0x01, 0x00, 0xFD, 0xA0], 0x0202, [0x80], 6) := by decide

theorem test_inx_V46 : view [] (step (put [0xE8] [] { start with x := 0xFF })) =
    some ([0x00, 0x00, 0x00, 0xFD, 0x22], 0x0201, [], 2) := by decide

theorem test_iny_V47 : view [] (step (put [0xC8] [] { start with y := 0x7F })) =
    some ([0x00, 0x00, 0x80, 0xFD, 0xA0], 0x0201, [], 2) := by decide

theorem test_irq_V131 : view [0x01FB, 0x01FC, 0x01FD] (step (put [0xEA] [(0xFFFE, 0x00), (0xFFFF, 0x90)] { start with pc := 0x0300, p := { noFlags with c := true }, irq := true })) =
    some ([0x00, 0x00, 0x00, 0xFA, 0x25], 0x9000, [0x21, 0x00, 0x03], 7) := by decide

theorem test_isc_V105 : view [0x0010] (step (put [0xE7, 0x10] [(0x0010, 0x0F)] { start with a := 0x10, p := { noFlags with c := true } })) =
    some ([0x00, 0x00, 0x00, 0xFD, 0x23], 0x0202, [0x10], 5) := by decide

theorem test_isc_V106 : view [0x0010] (step (put [0xE7, 0x10] [(0x0010, 0xFF)] { start with a := 0x10, p := { noFlags with c := true } })) =
    some ([0x10, 0x00, 0x00, 0xFD, 0x21], 0x0202, [0x00], 5) := by decide

theorem test_jam_V125 : view [] (step (put [0x02] [] { start with pc := 0x0300 })) =
    some ([0x00, 0x00, 0x00, 0xFD, 0x20], 0x0301, [], 2) := by decide

theorem test_jmp_V81 : view [] (step (put [0x6C, 0xFF, 0x10] [(0x1000, 0x56), (0x10FF, 0x34), (0x1100, 0x12)] start)) =
    some ([0x00, 0x00, 0x00, 0xFD, 0x20], 0x1234, [], 5) := by decide

theorem test_jmp_V82 : view [] (step (put [0x6C, 0xFF, 0x10] [(0x1000, 0x56), (0x10FF, 0x34), (0x1100, 0x12)] { start with config := { Config.default with jmpIndPageWrap := true } })) =
    some ([0x00, 0x00, 0x00, 0xFD, 0x20], 0x5634, [], 5) := by decide

theorem test_jsr_V83 : view [0x01FC, 0x01FD] (step (put [0x20, 0x34, 0x12] [] { start with pc := 0x0600 })) =
    some ([0x00, 0x00, 0x00, 0xFB, 0x20], 0x1234, [0x02, 0x06], 6) := by decide

theorem test_las_V119 : view [] (step (put [0xBB, 0x00, 0x12] [(0x1200, 0x0F)] start)) =
    some ([0x0D, 0x0D, 0x00, 0x0D, 0x20], 0x0203, [], 4) := by decide

theorem test_lax_V107 : view [] (step (put [0xB7, 0x10] [(0x0011, 0x80)] { start with y := 0x01 })) =
    some ([0x80, 0x80, 0x01, 0xFD, 0xA0], 0x0202, [], 4) := by decide

theorem test_lda_V52 : view [] (step (put [0xA1, 0xFE] [(0x0000, 0x12), (0x00FF, 0x34), (0x1234, 0x99)] { start with x := 0x01 })) =
    some ([0x99, 0x01, 0x00, 0xFD, 0xA0], 0x0202, [], 6) := by decide

theorem test_lda_V53 : view [] (step (put [0xB1, 0xFF] [(0x0000, 0x30), (0x00FF, 0x00), (0x3001, 0x5A)] { start with y := 0x01 })) =
    some ([0x5A, 0x00, 0x01, 0xFD, 0x20], 0x0202, [], 5) := by decide

theorem test_ldx_V55 : view [] (step (put [0xB6, 0xFF] [(0x0001, 0x81)] { start with y := 0x02 })) =
    some ([0x00, 0x81, 0x02, 0xFD, 0xA0], 0x0202, [], 4) := by decide

theorem test_ldy_V56 : view [] (step (put [0xA0, 0x00] [] start)) =
    some ([0x00, 0x00, 0x00, 0xFD, 0x22], 0x0202, [], 2) := by decide

theorem test_lsr_V26 : view [] (step (put [0x4A] [] { start with a := 0x01 })) =
    some ([0x00, 0x00, 0x00, 0xFD, 0x23], 0x0201, [], 2) := by decide

theorem test_lsr_V27 : view [0x0010] (step (put [0x46, 0x10] [(0x0010, 0x81)] { start with p := { noFlags with n := true } })) =
    some ([0x00, 0x00, 0x00, 0xFD, 0x21], 0x0202, [0x40], 5) := by decide

theorem test_lxa_V116 : view [] (step (put [0xAB, 0x81] [] start)) =
    some ([0x81, 0x81, 0x00, 0xFD, 0xA0], 0x0202, [], 2) := by decide

theorem test_masked_irq_V132 : view [] (step (put [0xEA] [(0xFFFE, 0x00), (0xFFFF, 0x90)] { start with pc := 0x0300, p := { noFlags with i := true }, irq := true })) =
    some ([0x00, 0x00, 0x00, 0xFD, 0x24], 0x0301, [], 2) := by decide

theorem test_nmi_V133 : view [0x01FB, 0x01FC, 0x01FD] (step (put [0xEA] [(0xFFFA, 0x00), (0xFFFB, 0xA0)] { start with pc := 0x0300, p := { noFlags with i := true }, nmiPending := true })) =
    some ([0x00, 0x00, 0x00, 0xFA, 0x24], 0xA000, [0x24, 0x00, 0x03], 7) := by decide

theorem test_nop_V127 : view [] (step (put [0x0C, 0x34, 0x12] [] start)) =
    some ([0x00, 0x00, 0x00, 0xFD, 0x20], 0x0203, [], 4) := by decide

theorem test_nop_V130 : view [] (step (put [0x1A] [] start)) =
    some ([0x00, 0x00, 0x00, 0xFD, 0x20], 0x0201, [], 2) := by decide

theorem test_ora_V17 : view [] (step (put [0x09, 0x00] [] start)) =
    some ([0x00, 0x00, 0x00, 0xFD, 0x22], 0x0202, [], 2) := by decide

theorem test_ora_V18 : view [] (step (put [0x09, 0x81] [] { start with a := 0x01 })) =
    some ([0x81, 0x00, 0x00, 0xFD, 0xA0], 0x0202, [], 2) := by decide

theorem test_pha_V66 : view [0x0100] (step (put [0x48] [] { start with a := 0x42, sp := 0x00 })) =
    some ([0x42, 0x00, 0x00, 0xFF, 0x20], 0x0201, [0x42], 3) := by decide

theorem test_php_V67 : view [0x01FD] (step (put [0x08] [] { start with p := { noFlags with i := true } })) =
    some ([0x00, 0x00, 0x00, 0xFC, 0x24], 0x0201, [0x34], 3) := by decide

theorem test_php_V68 : view [0x01FF] (step (put [0x08] [] { start with sp := 0xFF, p := { noFlags with c := true, n := true } })) =
    some ([0x00, 0x00, 0x00, 0xFE, 0xA1], 0x0201, [0xB1], 3) := by decide

theorem test_pla_V69 : view [] (step (put [0x68] [(0x0100, 0x80)] { start with sp := 0xFF })) =
    some ([0x80, 0x00, 0x00, 0x00, 0xA0], 0x0201, [], 4) := by decide

theorem test_plp_V70 : view [] (step (put [0x28] [(0x01FE, 0xFF)] start)) =
    some ([0x00, 0x00, 0x00, 0xFE, 0xEF], 0x0201, [], 4) := by decide

theorem test_plp_V71 : view [] (step (put [0x28] [(0x01FE, 0x30)] { start with p := { noFlags with c := true, z := true, i := true, d := true, v := true, n := true } })) =
    some ([0x00, 0x00, 0x00, 0xFE, 0x20], 0x0201, [], 4) := by decide

theorem test_rla_V99 : view [0x0010] (step (put [0x27, 0x10] [(0x0010, 0x80)] { start with a := 0xFF, p := { noFlags with c := true } })) =
    some ([0x01, 0x00, 0x00, 0xFD, 0x21], 0x0202, [0x01], 5) := by decide

theorem test_rol_V28 : view [] (step (put [0x2A] [] { start with a := 0x80, p := { noFlags with c := true } })) =
    some ([0x01, 0x00, 0x00, 0xFD, 0x21], 0x0201, [], 2) := by decide

theorem test_rol_V29 : view [] (step (put [0x2A] [] { start with a := 0x40 })) =
    some ([0x80, 0x00, 0x00, 0xFD, 0xA0], 0x0201, [], 2) := by decide

theorem test_ror_V30 : view [] (step (put [0x6A] [] { start with a := 0x01, p := { noFlags with c := true } })) =
    some ([0x80, 0x00, 0x00, 0xFD, 0xA1], 0x0201, [], 2) := by decide

theorem test_ror_V31 : view [0x1235] (step (put [0x7E, 0x34, 0x12] [(0x1235, 0x02)] { start with x := 0x01 })) =
    some ([0x00, 0x01, 0x00, 0xFD, 0x20], 0x0203, [0x01], 7) := by decide

theorem test_rra_V101 : view [0x0010] (step (put [0x67, 0x10] [(0x0010, 0x03)] { start with a := 0x10 })) =
    some ([0x12, 0x00, 0x00, 0xFD, 0x20], 0x0202, [0x01], 5) := by decide

theorem test_rra_V102 : view [0x0010] (step (put [0x67, 0x10] [(0x0010, 0x02)] { start with a := 0x7F, p := { noFlags with c := true } })) =
    some ([0x00, 0x00, 0x00, 0xFD, 0x23], 0x0202, [0x81], 5) := by decide

theorem test_rti_V96 : view [] (step (put [0x40] [(0x01FB, 0x31), (0x01FC, 0x02), (0x01FD, 0x04)] { start with sp := 0xFA })) =
    some ([0x00, 0x00, 0x00, 0xFD, 0x21], 0x0402, [], 6) := by decide

theorem test_rts_V84 : view [] (step (put [0x60] [(0x01FC, 0x02), (0x01FD, 0x06)] { start with sp := 0xFB })) =
    some ([0x00, 0x00, 0x00, 0xFD, 0x20], 0x0603, [], 6) := by decide

theorem test_rts_V85 : view [] (step (put [0x60] [(0x01FC, 0xFF), (0x01FD, 0xFF)] { start with sp := 0xFB })) =
    some ([0x00, 0x00, 0x00, 0xFD, 0x20], 0x0000, [], 6) := by decide

theorem test_sax_V108 : view [0x0010] (step (put [0x87, 0x10] [] { start with a := 0xF0, x := 0x3C, p := { noFlags with n := true } })) =
    some ([0xF0, 0x3C, 0x00, 0xFD, 0xA0], 0x0202, [0x30], 3) := by decide

theorem test_sbc_V10 : view [] (step (put [0xE9, 0x01] [] { start with a := 0x80, p := { noFlags with c := true } })) =
    some ([0x7F, 0x00, 0x00, 0xFD, 0x61], 0x0202, [], 2) := by decide

theorem test_sbc_V14 : view [] (step (put [0xEB, 0x03] [] { start with a := 0x05, p := { noFlags with c := true } })) =
    some ([0x02, 0x00, 0x00, 0xFD, 0x21], 0x0202, [], 2) := by decide

theorem test_sbx_V117 : view [] (step (put [0xCB, 0x01] [] { start with a := 0xFF, x := 0x10 })) =
    some ([0xFF, 0x0F, 0x00, 0xFD, 0x21], 0x0202, [], 2) := by decide

theorem test_sbx_V118 : view [] (step (put [0xCB, 0x20] [] { start with a := 0x1F, x := 0xFF, p := { noFlags with c := true, v := true } })) =
    some ([0x1F, 0xFF, 0x00, 0xFD, 0xE0], 0x0202, [], 2) := by decide

theorem test_sec_V73 : view [] (step (put [0x38] [] start)) =
    some ([0x00, 0x00, 0x00, 0xFD, 0x21], 0x0201, [], 2) := by decide

theorem test_sed_V78 : view [] (step (put [0xF8] [] start)) =
    some ([0x00, 0x00, 0x00, 0xFD, 0x28], 0x0201, [], 2) := by decide

theorem test_sei_V75 : view [] (step (put [0x78] [] start)) =
    some ([0x00, 0x00, 0x00, 0xFD, 0x24], 0x0201, [], 2) := by decide

theorem test_sha_V120 : view [0x1205] (step (put [0x9F, 0x00, 0x12] [] { start with a := 0xFF, x := 0xFF, y := 0x05 })) =
    some ([0xFF, 0xFF, 0x05, 0xFD, 0x20], 0x0203, [0x13], 5) := by decide

theorem test_sha_V121 : view [0x2001] (step (put [0x93, 0x10] [(0x0010, 0x00), (0x0011, 0x20)] { start with a := 0xFF, x := 0x0F, y := 0x01 })) =
    some ([0xFF, 0x0F, 0x01, 0xFD, 0x20], 0x0202, [0x01], 6) := by decide

theorem test_shx_V123 : view [0x0310] (step (put [0x9E, 0xF0, 0x12] [] { start with x := 0x0F, y := 0x20 })) =
    some ([0x00, 0x0F, 0x20, 0xFD, 0x20], 0x0203, [0x03], 5) := by decide

theorem test_shy_V122 : view [0x1110] (step (put [0x9C, 0xF0, 0x12] [] { start with x := 0x20, y := 0xF1 })) =
    some ([0x00, 0x20, 0xF1, 0xFD, 0x20], 0x0203, [0x11], 5) := by decide

theorem test_slo_V97 : view [0x0010] (step (put [0x07, 0x10] [(0x0010, 0x41)] { start with a := 0x01 })) =
    some ([0x83, 0x00, 0x00, 0xFD, 0xA0], 0x0202, [0x82], 5) := by decide

theorem test_slo_V98 : view [0x0010] (step (put [0x07, 0x10] [(0x0010, 0x80)] start)) =
    some ([0x00, 0x00, 0x00, 0xFD, 0x23], 0x0202, [0x00], 5) := by decide

theorem test_sre_V100 : view [0x0010] (step (put [0x47, 0x10] [(0x0010, 0x02)] { start with a := 0xFF })) =
    some ([0xFE, 0x00, 0x00, 0xFD, 0xA0], 0x0202, [0x01], 5) := by decide

theorem test_sta_V57 : view [0x0000] (step (put [0x99, 0xFF, 0xFF] [] { start with a := 0x42, y := 0x01 })) =
    some ([0x42, 0x00, 0x01, 0xFD, 0x20], 0x0203, [0x42], 5) := by decide

theorem test_stx_V58 : view [0x0015] (step (put [0x96, 0x10] [] { start with x := 0x33, y := 0x05 })) =
    some ([0x00, 0x33, 0x05, 0xFD, 0x20], 0x0202, [0x33], 4) := by decide

theorem test_sty_V59 : view [0x0000] (step (put [0x94, 0xFF] [] { start with x := 0x01, y := 0x44 })) =
    some ([0x00, 0x01, 0x44, 0xFD, 0x20], 0x0202, [0x44], 4) := by decide

theorem test_tas_V124 : view [0x1200] (step (put [0x9B, 0x00, 0x12] [] { start with a := 0xF3, x := 0x3F })) =
    some ([0xF3, 0x3F, 0x00, 0x33, 0x20], 0x0203, [0x13], 5) := by decide

theorem test_tax_V60 : view [] (step (put [0xAA] [] { start with x := 0x12 })) =
    some ([0x00, 0x00, 0x00, 0xFD, 0x22], 0x0201, [], 2) := by decide

theorem test_tay_V61 : view [] (step (put [0xA8] [] { start with a := 0x90 })) =
    some ([0x90, 0x00, 0x90, 0xFD, 0xA0], 0x0201, [], 2) := by decide

theorem test_tsx_V64 : view [] (step (put [0xBA] [] start)) =
    some ([0x00, 0xFD, 0x00, 0xFD, 0xA0], 0x0201, [], 2) := by decide

theorem test_txa_V62 : view [] (step (put [0x8A] [] { start with x := 0xFF })) =
    some ([0xFF, 0xFF, 0x00, 0xFD, 0xA0], 0x0201, [], 2) := by decide

theorem test_txs_V65 : view [] (step (put [0x9A] [] { start with p := { noFlags with n := true } })) =
    some ([0x00, 0x00, 0x00, 0x00, 0xA0], 0x0201, [], 2) := by decide

theorem test_tya_V63 : view [] (step (put [0x98] [] { start with a := 0x80, y := 0x01, p := { noFlags with n := true } })) =
    some ([0x01, 0x00, 0x01, 0xFD, 0x20], 0x0201, [], 2) := by decide

/-- V125: JAM halts the core. -/
theorem test_jam_sets_halted : (match step (put [0x02] [] { start with pc := 0x0300 }) with | .next t => t.halted | _ => false) = true := by decide

/-- V137 and V138: `reset()` in both modes. -/
theorem test_reset_call_V137 :
    (let s := setCells [(0xFFFC, 0x00), (0xFFFD, 0x80)] { start with a := 0x11, sp := 0x44, p := { noFlags with n := true, d := true }, halted := true, nmiPending := true }
     (s.resetCall.inspect, s.resetCall.halted, s.resetCall.nmiPending)) =
    ({ a := 0x00, x := 0x00, y := 0x00, sp := 0xFD, pc := 0x8000, p := 0x24 }, false, false) := by decide

theorem test_reset_call_V138 :
    (setCells [(0xFFFC, 0x00), (0xFFFD, 0x80)] { start with config := { Config.default with resetPcMode := .zero } }).resetCall.pc = 0x0000 := by decide

/-- Materialized and restored status bytes (R36 to R39, E12). -/
theorem test_pack_of_no_flags : noFlags.pack true = 0x30 := by decide
theorem test_unpack_ignores_bits_four_and_five : Flags.unpack 0x30 = noFlags := by decide

/-- A placed instruction is the next one that runs, from reset and from a halted state. -/
theorem test_placed_word_runs : view [] (step (State.reset.withFetchWord 16 0x80A9)) = some ([0x80, 0x00, 0x00, 0xFD, 0xA4], 0x0002, [], 2) := by decide
theorem test_placed_word_runs_when_halted :
    view [] (step ({ start with halted := true, nmiPending := true, irq := true }.withFetchWord 8 0xE8)) = some ([0x00, 0x01, 0x00, 0xFD, 0x20], 0x0201, [], 2) := by decide
theorem test_table_word : decodeTableWord 24 0x1234AD = some (.ldaAbs 0x1234) := by decide

/-- A write of the byte an unlisted address reads as takes the entry out. -/
theorem test_write_keeps_canonical_form :
    (((Memory.write [] 0x0010 0x05).write 0x0003 0x07).write 0x0010 0x00) = [(0x0003, 0x07)] := by decide

/-! Witnesses: for each obligation with hypotheses, a state and operands that meet them, at the boundaries of their ranges. -/

/-- A halted core with an interrupt of each kind waiting. -/
def halted : State := { start with halted := true, nmiPending := true, irq := true }

/-- A core about to run the instruction at 0xFFFF, whose operand wraps to 0x0000. -/
def atTop (bytes : List Byte) : State := put bytes [] { start with pc := 0xFFFF }

/-- A core with I set, A, X, Y at 0xFF, S at 0x00, the flags set. -/
def full : State := { start with a := 0xFF, x := 0xFF, y := 0xFF, sp := 0x00, p := { c := true, z := true, i := true, d := true, v := true, n := true } }

theorem witness_EncodeInvertsDecode :
    decode [0xFF, 0xFF, 0xFF, 0x00] = .ok (.iscAbsX 0xFFFF, [0x00]) ∧ decode [0x00] = .ok (.brk, []) ∧
    decode [0xE0, 0xFF] = .ok (.cpxImm 0xFF, []) := by decide
theorem witness_DecodeRejectsOnlyShortInput :
    (decodeOpcode 0x4C 0#8 0#8).mode.operandCount = 2 ∧ ([0xFF] : List Byte).length < 2 ∧
    decode [0x4C, 0xFF] = .error (.truncatedOperand 0x4C) := by decide
theorem witness_StepRunsTheDecodedInstruction :
    (atTop [0xAD, 0x34, 0x12]).fetches = true ∧
    decode [(atTop [0xAD, 0x34, 0x12]).read 0xFFFF, (atTop [0xAD, 0x34, 0x12]).read 0x0000, (atTop [0xAD, 0x34, 0x12]).read 0x0001] =
      .ok (.ldaAbs 0x1234, []) ∧
    { full with irq := true }.fetches = true := by decide
theorem witness_HaltedCoreStaysAsItIs : halted.halted = true := by decide
theorem witness_PendingNmiIsEnteredFirst :
    { full with nmiPending := true, irq := true }.halted = false ∧ { full with nmiPending := true, irq := true }.nmiPending = true := by decide
theorem witness_UnmaskedIrqIsEntered :
    { start with irq := true }.halted = false ∧ { start with irq := true }.nmiPending = false ∧
    { start with irq := true }.irq = true ∧ { start with irq := true }.p.i = false := by decide
theorem witness_StepKeepsMemoryCanonical :
    (put [0x8D, 0xFF, 0xFF] [(0x0000, 0x01)] full).mem.wf = true ∧
    view [0xFFFF] (step (put [0x8D, 0xFF, 0xFF] [(0x0000, 0x01)] full)) = some ([0xFF, 0xFF, 0xFF, 0x00, 0xEF], 0x0203, [0xFF], 4) := by decide
theorem witness_ResetCallGivesTheResetValues :
    start.config.resetPcMode = .vector ∧ ({ start with config := { Config.default with resetPcMode := .zero } } : State).config.resetPcMode = .zero := by decide
theorem witness_OnlyJamHalts :
    (∃ t, step (put [0xF2] [] start) = .next t ∧ t.halted = true ∧ (put [0xF2] [] start).fetches = true) ∧
    (∃ t, step (put [0xE2] [] start) = .next t ∧ t.halted = false) ∧ (∃ t, step halted = .next t ∧ t.halted = true) :=
  ⟨⟨_, rfl, rfl, rfl⟩, ⟨_, rfl, rfl⟩, ⟨_, rfl, rfl⟩⟩
theorem witness_StepLeavesInputsAndParameters :
    (∃ t, step halted = .next t ∧ t.nmiPending = true) ∧ (∃ t, step { start with nmiPending := true } = .next t ∧ t.nmiPending = false) :=
  ⟨⟨_, rfl, rfl⟩, ⟨_, rfl, rfl⟩⟩
theorem witness_OnlyListedInstructionsWriteEachRegister :
    exec (.staZp 0xFF) full = .next (full.opSta (eaZp 0xFF)) ∧ Instr.writesA (.staZp 0xFF) = false ∧ Instr.writesX (.staZp 0xFF) = false ∧
    Instr.writesY (.staZp 0xFF) = false ∧ Instr.writesSp (.staZp 0xFF) = false ∧ Instr.writesPc (.staZp 0xFF) = false ∧
    Instr.mnemonic (.staZp 0xFF) ≠ .JAM := ⟨rfl, by decide⟩
theorem witness_FlagsOutsideTheTableAreUnchanged :
    exec .clc full = .next full.opClc ∧ (Instr.mnemonic .clc).flagsWritten.c = true ∧ (Instr.mnemonic .clc).flagsWritten.n = false ∧
    (Instr.mnemonic .clc).flagsWritten.i = false := ⟨rfl, by decide⟩
theorem witness_MemoryChangesOnlyAtStoredAddresses :
    exec .brk full = .next full.opBrk ∧ Instr.storedAddresses .brk full = [0x0100, 0x01FF, 0x01FE] ∧
    (0x0101 : Word) ∉ Instr.storedAddresses .brk full ∧ exec .tax full = .next full.opTax ∧ Instr.storedAddresses .tax full = [] ∧
    Instr.storedAddresses (.shxAbsY 0x12F0) full = [0x13EF] :=
  ⟨rfl, by decide, by decide, rfl, by decide, by decide⟩
theorem witness_OnlyPushesReadTheDecimalFlag :
    Instr.mnemonic (.adcImm 0xFF) ≠ .PHP ∧ Instr.mnemonic (.adcImm 0xFF) ≠ .BRK ∧ start.withDecimal true ≠ start := by decide
theorem witness_WrittenByteIsReadUntilTheNextWrite :
    (∀ c ∈ [((0xFFFF : Word), (0x01 : Byte)), (0x0001, 0x02)], c.1 ≠ (0x0000 : Word)) ∧ (0xFFFF : Word) ≠ 0x0000 := by simp
theorem witness_CanonicalMemoriesWithEqualReadsAreEqual :
    Memory.wf [(0x0000, 0x01), (0xFFFF, 0xFF)] = true ∧ Memory.wf [(0xFFFF, 0x00)] = false ∧ Memory.wf [(0x10000, 0x01)] = false ∧
    (∀ a : Word, Memory.read [(0x0000, 0x01), (0xFFFF, 0xFF)] a = Memory.read [(0x0000, 0x01), (0xFFFF, 0xFF)] a) :=
  ⟨by decide, by decide, by decide, fun _ => rfl⟩
theorem witness_PushWritesThenLowersS : (0x01FF : Word) ≠ 0x0100#16 + full.sp.setWidth 16 := by decide
theorem witness_PopsReturnPushesInReverse : (List.replicate 256 (0x5A : Byte)).length ≤ 256 := Nat.le_of_eq List.length_replicate
theorem witness_AddAndSubtractObeyIntegerArithmetic :
    (256 ≤ full.a.toNat + (0x00 : Byte).toNat + full.p.c.toNat) ∧ ¬ (256 ≤ start.a.toNat + (0xFF : Byte).toNat + start.p.c.toNat) ∧
    (127 < (0x7F : Byte).toInt + (0x00 : Byte).toInt + full.p.c.toNat) ∧ ((0x80 : Byte).toInt + (0xFF : Byte).toInt + start.p.c.toNat < -128) ∧
    (0 ≤ (full.a.toNat : Int) - (0xFF : Byte).toNat - (1 - full.p.c.toNat)) ∧
    ¬ (0 ≤ (start.a.toNat : Int) - (0x00 : Byte).toNat - (1 - start.p.c.toNat)) := by decide
theorem witness_ReturnComesBackAfterTheCall :
    (0x01FE : Word) ≠ stackAddress full.sp ∧ (0x01FE : Word) ≠ stackAddress (full.sp - 1#8) := by decide
theorem witness_BranchesAddTheSignedOffset : start.p.c = false ∧ full.p.c = true ∧ start.p.z = false ∧ full.p.z = true := by decide
theorem witness_RtiUndoesInterruptEntry :
    (0x01FD : Word) ≠ stackAddress full.sp ∧ (0x01FD : Word) ≠ stackAddress (full.sp - 1#8) ∧ (0x01FD : Word) ≠ stackAddress (full.sp - 2#8) := by decide
theorem witness_HighByteStores :
    hi (full.eaAbsY 0x12F0) ≠ hi (0x12F0 : Word) ∧ hi (full.eaAbsY 0x1200) = hi (0x1200 : Word) := by decide
theorem witness_CompositesEqualTheirTwoInstructions : start.config.aneConst = 0xFF#8 ∧ start.config.lxaConst = 0xFF#8 := by decide

end Sys2Proof.Tests
end

section
/-! PROOFS. The status byte of R36 to R39: what `PackP` puts in each bit, which bits `UnpackP` reads, and the obligations about the two. -/

namespace Sys2Proof.Machine

/-- Bits 0 to 7 of `PackP(b)`, in rising order (R36). -/
theorem Flags.getLsbD_pack (p : Flags) (b : Bool) {k : Nat} (hk : k < 8) :
    (p.pack b).getLsbD k = [p.c, p.z, p.i, p.d, b, true, p.v, p.n][k] := by
  unfold Flags.pack
  -- The lemmas about `++` need the width spelt as the sum of the eight parts.
  change BitVec.getLsbD (w := 1 + 1 + 1 + 1 + 1 + 1 + 1 + 1) _ _ = _
  simp only [BitVec.getLsbD_append, BitVec.getLsbD_ofBool]
  interval_cases k <;> simp

/-- `UnpackP` reads no bit but 0, 1, 2, 3, 6 and 7 (R39). -/
theorem Flags.unpack_congr {u v : Byte} (h : ∀ k ∈ [0, 1, 2, 3, 6, 7], u.getLsbD k = v.getLsbD k) :
    Flags.unpack u = Flags.unpack v := by
  rw [Flags.unpack, Flags.unpack, h 0, h 1, h 2, h 3, h 6, h 7] <;> simp

theorem Flags.unpack_set_bit_five (v : Byte) : Flags.unpack (v ||| 0x20#8) = Flags.unpack v :=
  Flags.unpack_congr (by simp)

theorem Flags.unpack_clear_bit_five (v : Byte) : Flags.unpack (v &&& 0xDF#8) = Flags.unpack v :=
  Flags.unpack_congr (by simp)

/-- Materializing what was restored from a byte forces its bits 5 and 4 and keeps the other six (R36, R39). -/
theorem Flags.pack_unpack (v : Byte) (b : Bool) :
    (Flags.unpack v).pack b = (v &&& 0xCF#8) ||| 0x20#8 ||| (if b then 0x10#8 else 0x00#8) := by
  apply BitVec.eq_of_getLsbD_eq
  intro k hk
  rw [Flags.getLsbD_pack _ _ hk]
  cases b <;> interval_cases k <;> simp [Flags.unpack]

/-- Settles O26: `PackP` puts 1 in bit 5, and `UnpackP` does not read bit 5. -/
theorem statusByteShowsBitFiveSet : Obligations.StatusByteShowsBitFiveSet := by
  intro p b v
  exact ⟨Flags.pack_bit_five p b, Flags.unpack_set_bit_five v, Flags.unpack_clear_bit_five v⟩

/-- Settles O27: `UnpackP` bit by bit is its definition; the round trips are `Flags.unpack_pack` and `Flags.pack_unpack`. -/
theorem statusRestoredFromItsByte : Obligations.StatusRestoredFromItsByte := by
  intro v p b
  exact ⟨rfl, Flags.unpack_pack p b, Flags.pack_unpack v b⟩

end Sys2Proof.Machine
end

section
/-! PROOFS. Memory as R62, R64 and R65 read it: what writes at other addresses leave, the two addresses of a word, and the obligations about them. -/

namespace Sys2Proof.Machine

/-- A run of writes that never touches `a` leaves the byte there (R62's "until the next write to a"). -/
theorem Memory.read_foldl_write_ne (a : Word) (later : List (Word × Byte)) (m : Memory) (h : ∀ c ∈ later, c.1 ≠ a) :
    (later.foldl (fun n c => n.write c.1 c.2) m).read a = m.read a := by
  induction later generalizing m with
  | nil => rfl
  | cons c rest ih =>
    obtain ⟨hc, hrest⟩ := List.forall_mem_cons.mp h
    rw [List.foldl_cons, ih _ hrest, Memory.read_write_ne m c.1 a c.2 hc.symm]

/-- Settles O20, by induction on the later writes (`Memory.read_foldl_write_ne`). -/
theorem writtenByteIsReadUntilTheNextWrite : Obligations.WrittenByteIsReadUntilTheNextWrite := by
  intro m a v later h
  refine ⟨?_, fun b hb => Memory.read_write_ne m a b v hb⟩
  rw [Memory.read_foldl_write_ne a later _ h, Memory.read_write_same]

/-- The address after `a`, which wraps mod 2^16 (R64). -/
theorem word_add_one (a : Word) : a + 1 = BitVec.ofNat 16 ((a.toNat + 1) % 65536) :=
  BitVec.eq_of_toNat_eq (by simp)

/-- The address of a zero-page byte (R65). -/
theorem zext16_eq_ofNat (z : Byte) : zext16 z = BitVec.ofNat 16 z.toNat :=
  (BitVec.ofNat_toNat 16 z).symm

/-- The zero-page address after `z`, which wraps mod 256 inside page 0 (R65). -/
theorem zext16_add_one (z : Byte) : zext16 (z + 1) = BitVec.ofNat 16 ((z.toNat + 1) % 256) := by
  rw [zext16_eq_ofNat, BitVec.toNat_add]
  rfl

/-- Settles O22: both reads join two bytes, and the addresses of the high bytes are `word_add_one` and `zext16_add_one`. -/
theorem wordsAreLittleEndianAndWrap : Obligations.WordsAreLittleEndianAndWrap := by
  intro m a z
  constructor
  · rw [Memory.readWord, joinWord_toNat, word_add_one, Nat.add_comm]
  · rw [Memory.readPointer, joinWord_toNat, zext16_add_one, zext16_eq_ofNat, Nat.add_comm]

end Sys2Proof.Machine
end

section
/-! PROOFS. The decoder on opcode bytes with enough bytes behind them (R91, R95): what it reads and what it leaves, and the obligation about it. -/

namespace Sys2Proof

/-- Length, like mode, is a matter of the opcode byte alone (R91, R95). -/
theorem decodeOpcode_length (op b1 b2 : Byte) :
    (decodeOpcode op b1 b2).length = 1 + (decodeOpcode op 0#8 0#8).mode.operandCount := by
  rw [Instr.length, decodeOpcode_mode]

/-- No list of three bytes or more is rejected. The bytes `x` and `y` the table is asked with are the operand bytes as far as the format has them, and 0 beyond. -/
theorem decode_eq_ok_of_three_bytes (op b1 b2 : Byte) (rest : List Byte) :
    ∃ x y, decode (op :: b1 :: b2 :: rest) =
      .ok (decodeOpcode op x y, (op :: b1 :: b2 :: rest).drop (decodeOpcode op x y).length) := by
  simp only [decodeOpcode_length]
  rcases Mode.operandCount_cases (decodeOpcode op 0#8 0#8).mode with h | h | h
  · exact ⟨0#8, 0#8, by simp [decode, h]⟩
  · exact ⟨b1, 0#8, by simp [decode, h]⟩
  · exact ⟨b1, b2, by simp [decode, h]⟩

/-- Settles O3: both sequences decode to rows the table has for `op` (`decode_eq_ok_of_three_bytes`), and the table's mnemonic, mode and length do not depend on the operand bytes. -/
theorem opcodeByteAloneSelectsInstruction : Obligations.OpcodeByteAloneSelectsInstruction := by
  intro op b1 b2 c1 c2 r1 r2
  obtain ⟨x, y, hb⟩ := decode_eq_ok_of_three_bytes op b1 b2 r1
  obtain ⟨z, w, hc⟩ := decode_eq_ok_of_three_bytes op c1 c2 r2
  refine ⟨_, _, hb, hc, decodeOpcode_opcode x y op, decodeOpcode_opcode z w op, ?mnemonic, ?mode, ?length⟩
  case mnemonic => rw [decodeOpcode_mnemonic x y, decodeOpcode_mnemonic z w]
  case mode => rw [decodeOpcode_mode x y, decodeOpcode_mode z w]
  case length => rw [decodeOpcode_length op x y, decodeOpcode_length op z w]

end Sys2Proof
end

section
/-! PROOFS. The stack of R136 and R137: the sum behind a stack address, what a push leaves to read, and the obligation about one push and one pop. -/

namespace Sys2Proof.Machine

/-- The address in S is R33's sum; page 1 does not carry into page 2. -/
theorem stackAddress_eq_add (sp : Byte) : stackAddress sp = 0x0100#16 + sp.setWidth 16 := by
  apply BitVec.eq_of_toNat_eq
  have hsp := sp.isLt
  rw [stackAddress_toNat, BitVec.toNat_add, BitVec.toNat_setWidth, BitVec.toNat_ofNat]
  omega

@[simp] theorem State.read_push_same (s : State) (v : Byte) : (s.push v).read (stackAddress s.sp) = v := by
  rw [State.push_eq, State.read, Memory.read_write_same]

theorem State.read_push_ne (s : State) (v : Byte) {a : Word} (h : a ≠ stackAddress s.sp) :
    (s.push v).read a = s.read a := by
  rw [State.push_eq, State.read, Memory.read_write_ne _ _ _ _ h, State.read]

/-- Settles O24: with the address written as R33's sum (`stackAddress_eq_add`), each part is what a push or a pop does. -/
theorem pushWritesThenLowersS : Obligations.PushWritesThenLowersS := by
  intro s v
  simp only [← stackAddress_eq_add]
  exact ⟨State.push_eq s v, State.read_push_same s v, fun _ ha => State.read_push_ne s v ha, State.pop_eq s⟩

end Sys2Proof.Machine
end

section
/-! PROOFS. The logical instructions of R160 to R162: what a row of the opcode table does by its mnemonic's operation, the three operations, and the obligation about their twenty-four rows. -/

namespace Sys2Proof.Machine

/-- Every instruction runs as its own row: its encoding, its base cycles, and its mnemonic's operation on its resolved operand. -/
theorem runsAs_of_effect {i : Instr} {s t : State}
    (h : i.mnemonic.effect s (i.operandByte s) (i.operandPlace s) (i.base s) (i.ea s) = t) :
    RunsAs s i (encode i) (baseCycles s.config i) t :=
  ⟨(exec_eq_effect i s).trans (congrArg _ h), rfl, rfl⟩

theorem State.opAnd_eq (s : State) (m : Byte) :
    s.opAnd m = { s with
      a := s.a &&& m, p := { s.p with n := (s.a &&& m).getLsbD 7, z := decide ((s.a &&& m) = 0#8) } } := rfl

theorem State.opOra_eq (s : State) (m : Byte) :
    s.opOra m = { s with
      a := s.a ||| m, p := { s.p with n := (s.a ||| m).getLsbD 7, z := decide ((s.a ||| m) = 0#8) } } := rfl

theorem State.opEor_eq (s : State) (m : Byte) :
    s.opEor m = { s with
      a := s.a ^^^ m, p := { s.p with n := (s.a ^^^ m).getLsbD 7, z := decide ((s.a ^^^ m) = 0#8) } } := rfl

/-- R160, in every mode. -/
theorem runsAs_and {i : Instr} (hi : i.mnemonic = .AND) (s : State) :
    RunsAs s i (encode i) (baseCycles s.config i) (s.opAnd (i.operandByte s)) :=
  runsAs_of_effect (by rw [hi]; rfl)

/-- R161, in every mode. -/
theorem runsAs_ora {i : Instr} (hi : i.mnemonic = .ORA) (s : State) :
    RunsAs s i (encode i) (baseCycles s.config i) (s.opOra (i.operandByte s)) :=
  runsAs_of_effect (by rw [hi]; rfl)

/-- R162, in every mode. -/
theorem runsAs_eor {i : Instr} (hi : i.mnemonic = .EOR) (s : State) :
    RunsAs s i (encode i) (baseCycles s.config i) (s.opEor (i.operandByte s)) :=
  runsAs_of_effect (by rw [hi]; rfl)

/-- Settles O32: with the three results written as the operations' (`State.opAnd_eq` and its like), a row is its mnemonic's lemma at the row's instruction, whose bytes, cycles and operand byte are the row's. The rows stand by mnemonic, eight modes each. -/
theorem logicalInstructionsCombineWithA : Obligations.LogicalInstructionsCombineWithA := by
  intro s i z w
  simp only [← State.opAnd_eq, ← State.opOra_eq, ← State.opEor_eq]
  exact
    ⟨runsAs_and rfl s, runsAs_and rfl s, runsAs_and rfl s, runsAs_and rfl s,
     runsAs_and rfl s, runsAs_and rfl s, runsAs_and rfl s, runsAs_and rfl s,
     runsAs_ora rfl s, runsAs_ora rfl s, runsAs_ora rfl s, runsAs_ora rfl s,
     runsAs_ora rfl s, runsAs_ora rfl s, runsAs_ora rfl s, runsAs_ora rfl s,
     runsAs_eor rfl s, runsAs_eor rfl s, runsAs_eor rfl s, runsAs_eor rfl s,
     runsAs_eor rfl s, runsAs_eor rfl s, runsAs_eor rfl s, runsAs_eor rfl s⟩

end Sys2Proof.Machine
end

section
/-! PROOFS. The shifts and rotates of R170 to R173: what writing a shifted byte back does at each kind of place, what a row does by its mnemonic, and the obligations about the twenty rows. -/

namespace Sys2Proof.Machine

/-- A shifted byte goes back to its address; beyond that byte, C, N and Z are all that changes. -/
theorem State.writeShifted_addr (s : State) (a : Word) (r : Byte) (out : Bool) :
    s.writeShifted (.addr a) r out = { s with
      mem := s.mem.write a r, p := { s.p with c := out, n := r.getLsbD 7, z := decide (r = 0#8) } } := rfl

/-- A shifted byte goes back to A; beyond A, C, N and Z are all that changes. -/
theorem State.writeShifted_acc (s : State) (r : Byte) (out : Bool) :
    s.writeShifted .acc r out = { s with
      a := r, p := { s.p with c := out, n := r.getLsbD 7, z := decide (r = 0#8) } } := rfl

section
variable {i : Instr} (s : State)

/-- R170, in every mode. -/
theorem runsAs_asl (hi : i.mnemonic = .ASL) :
    RunsAs s i (encode i) (baseCycles s.config i)
      (s.writeShifted (i.operandPlace s) (s.readOperand (i.operandPlace s) <<< 1)
        ((s.readOperand (i.operandPlace s)).getLsbD 7)) :=
  runsAs_of_effect (by rw [hi]; rfl)

/-- R171, in every mode. -/
theorem runsAs_lsr (hi : i.mnemonic = .LSR) :
    RunsAs s i (encode i) (baseCycles s.config i)
      (s.writeShifted (i.operandPlace s) (s.readOperand (i.operandPlace s) >>> 1)
        ((s.readOperand (i.operandPlace s)).getLsbD 0)) :=
  runsAs_of_effect (by rw [hi]; rfl)

/-- R172, in every mode: the old carry enters at bit 0. -/
theorem runsAs_rol (hi : i.mnemonic = .ROL) :
    RunsAs s i (encode i) (baseCycles s.config i)
      (s.writeShifted (i.operandPlace s)
        ((s.readOperand (i.operandPlace s) <<< 1) ||| (if s.p.c then 0x01#8 else 0x00#8))
        ((s.readOperand (i.operandPlace s)).getLsbD 7)) :=
  runsAs_of_effect (by rw [hi, ← rolResult_eq]; rfl)

/-- R173, in every mode: the old carry enters at bit 7. -/
theorem runsAs_ror (hi : i.mnemonic = .ROR) :
    RunsAs s i (encode i) (baseCycles s.config i)
      (s.writeShifted (i.operandPlace s)
        ((s.readOperand (i.operandPlace s) >>> 1) ||| (if s.p.c then 0x80#8 else 0x00#8))
        ((s.readOperand (i.operandPlace s)).getLsbD 0)) :=
  runsAs_of_effect (by rw [hi, ← rorResult_eq]; rfl)

end

/-- Settles O34: with the results written as write-backs (`State.writeShifted_addr`, `State.writeShifted_acc`), a row is its mnemonic's lemma at the row's instruction, whose bytes, cycles and operand place are the row's. -/
theorem shiftsMoveOneBitIntoCarry : Obligations.ShiftsMoveOneBitIntoCarry := by
  intro s z w
  simp only [← State.writeShifted_addr, ← State.writeShifted_acc]
  exact
    ⟨runsAs_asl s rfl, runsAs_asl s rfl, runsAs_asl s rfl, runsAs_asl s rfl, runsAs_asl s rfl,
     runsAs_lsr s rfl, runsAs_lsr s rfl, runsAs_lsr s rfl, runsAs_lsr s rfl, runsAs_lsr s rfl⟩

/-- Settles O35: as for the shifts, a row is its mnemonic's lemma at the row's instruction; the old carry is read before the write-back sets the new one. -/
theorem rotatesPassThroughCarry : Obligations.RotatesPassThroughCarry := by
  intro s z w
  simp only [← State.writeShifted_addr, ← State.writeShifted_acc]
  exact
    ⟨runsAs_rol s rfl, runsAs_rol s rfl, runsAs_rol s rfl, runsAs_rol s rfl, runsAs_rol s rfl,
     runsAs_ror s rfl, runsAs_ror s rfl, runsAs_ror s rfl, runsAs_ror s rfl, runsAs_ror s rfl⟩

end Sys2Proof.Machine
end

section
/-! PROOFS. The increments and decrements of R190 to R195: what writing a byte and setting N and Z by it does, the six operations by that, and the obligations about their twelve rows. -/

namespace Sys2Proof.Machine

/-- A byte stored and shown in N and Z; nothing else changes. -/
theorem State.setNZ_store (s : State) (a : Word) (r : Byte) :
    (s.store a r).setNZ r = { s with
      mem := s.mem.write a r, p := { s.p with n := r.getLsbD 7, z := decide (r = 0#8) } } := by
  rw [State.store_eq, State.setNZ_eq]

/-- A byte put in X and shown in N and Z; nothing else changes. -/
theorem State.setNZ_setX (s : State) (r : Byte) :
    (s.setX r).setNZ r = { s with x := r, p := { s.p with n := r.getLsbD 7, z := decide (r = 0#8) } } :=
  State.setNZ_eq (s.setX r) r

/-- A byte put in Y and shown in N and Z; nothing else changes. -/
theorem State.setNZ_setY (s : State) (r : Byte) :
    (s.setY r).setNZ r = { s with y := r, p := { s.p with n := r.getLsbD 7, z := decide (r = 0#8) } } :=
  State.setNZ_eq (s.setY r) r

theorem State.opInc_addr (s : State) (a : Word) :
    s.opInc (.addr a) = (s.store a (s.read a + 1)).setNZ (s.read a + 1) := rfl

theorem State.opDec_addr (s : State) (a : Word) :
    s.opDec (.addr a) = (s.store a (s.read a - 1)).setNZ (s.read a - 1) := rfl

section
variable {i : Instr} (s : State) {a : Word}

/-- R190, in every mode that designates an address. -/
theorem runsAs_inc (hi : i.mnemonic = .INC) (ha : i.operandPlace s = .addr a) :
    RunsAs s i (encode i) (baseCycles s.config i) { s with
      mem := s.mem.write a (s.read a + 1),
      p := { s.p with n := (s.read a + 1).getLsbD 7, z := decide (s.read a + 1 = 0#8) } } :=
  runsAs_of_effect (by rw [hi, ha, ← State.setNZ_store, ← State.opInc_addr]; rfl)

/-- R191, in every mode that designates an address. -/
theorem runsAs_dec (hi : i.mnemonic = .DEC) (ha : i.operandPlace s = .addr a) :
    RunsAs s i (encode i) (baseCycles s.config i) { s with
      mem := s.mem.write a (s.read a - 1),
      p := { s.p with n := (s.read a - 1).getLsbD 7, z := decide (s.read a - 1 = 0#8) } } :=
  runsAs_of_effect (by rw [hi, ha, ← State.setNZ_store, ← State.opDec_addr]; rfl)

end

/-- Settles O37: a row is its mnemonic's lemma at the row's instruction, whose bytes, cycles and address are the row's. -/
theorem memoryIncrementsAndDecrements : Obligations.MemoryIncrementsAndDecrements := by
  intro s z w
  exact
    ⟨runsAs_inc s rfl rfl, runsAs_inc s rfl rfl, runsAs_inc s rfl rfl, runsAs_inc s rfl rfl,
     runsAs_dec s rfl rfl, runsAs_dec s rfl rfl, runsAs_dec s rfl rfl, runsAs_dec s rfl rfl⟩

/-- Settles O38: each row is the one instruction of its mnemonic, whose operation puts the new value in the register and shows it in N and Z. -/
theorem indexIncrementsAndDecrements : Obligations.IndexIncrementsAndDecrements := by
  intro s
  exact
    ⟨runsAs_of_effect (i := .inx) (s.setNZ_setX (s.x + 1)), runsAs_of_effect (i := .iny) (s.setNZ_setY (s.y + 1)),
     runsAs_of_effect (i := .dex) (s.setNZ_setX (s.x - 1)), runsAs_of_effect (i := .dey) (s.setNZ_setY (s.y - 1))⟩

end Sys2Proof.Machine
end

section
/-! PROOFS. The loads, stores and transfers of R200 to R211: a byte put in A with N and Z, what a row does by its mnemonic, and the obligations about their thirty-seven rows. -/

namespace Sys2Proof.Machine

/-- A byte put in A and shown in N and Z; nothing else changes. -/
theorem State.setNZ_setA (s : State) (r : Byte) :
    (s.setA r).setNZ r = { s with a := r, p := { s.p with n := r.getLsbD 7, z := decide (r = 0#8) } } :=
  State.setNZ_eq (s.setA r) r

section
variable {i : Instr} (s : State)

/-- R200, in every mode. -/
theorem runsAs_lda (hi : i.mnemonic = .LDA) :
    RunsAs s i (encode i) (baseCycles s.config i) ((s.setA (i.operandByte s)).setNZ (i.operandByte s)) :=
  runsAs_of_effect (by rw [hi]; rfl)

/-- R201, in every mode. -/
theorem runsAs_ldx (hi : i.mnemonic = .LDX) :
    RunsAs s i (encode i) (baseCycles s.config i) ((s.setX (i.operandByte s)).setNZ (i.operandByte s)) :=
  runsAs_of_effect (by rw [hi]; rfl)

/-- R202, in every mode. -/
theorem runsAs_ldy (hi : i.mnemonic = .LDY) :
    RunsAs s i (encode i) (baseCycles s.config i) ((s.setY (i.operandByte s)).setNZ (i.operandByte s)) :=
  runsAs_of_effect (by rw [hi]; rfl)

/-- R203, in every mode. -/
theorem runsAs_sta (hi : i.mnemonic = .STA) :
    RunsAs s i (encode i) (baseCycles s.config i) (s.store (i.ea s) s.a) :=
  runsAs_of_effect (by rw [hi]; rfl)

/-- R204, in every mode. -/
theorem runsAs_stx (hi : i.mnemonic = .STX) :
    RunsAs s i (encode i) (baseCycles s.config i) (s.store (i.ea s) s.x) :=
  runsAs_of_effect (by rw [hi]; rfl)

/-- R205, in every mode. -/
theorem runsAs_sty (hi : i.mnemonic = .STY) :
    RunsAs s i (encode i) (baseCycles s.config i) (s.store (i.ea s) s.y) :=
  runsAs_of_effect (by rw [hi]; rfl)

end

/-- Settles O39: with the results written as a register set and shown in N and Z (`State.setNZ_setA` and its like), a row is its mnemonic's lemma at the row's instruction, whose bytes, cycles and operand byte are the row's. -/
theorem loadsCopyTheOperand : Obligations.LoadsCopyTheOperand := by
  intro s i z w
  simp only [← State.setNZ_setA, ← State.setNZ_setX, ← State.setNZ_setY]
  exact
    ⟨runsAs_lda s rfl, runsAs_lda s rfl, runsAs_lda s rfl, runsAs_lda s rfl,
     runsAs_lda s rfl, runsAs_lda s rfl, runsAs_lda s rfl, runsAs_lda s rfl,
     runsAs_ldx s rfl, runsAs_ldx s rfl, runsAs_ldx s rfl, runsAs_ldx s rfl, runsAs_ldx s rfl,
     runsAs_ldy s rfl, runsAs_ldy s rfl, runsAs_ldy s rfl, runsAs_ldy s rfl, runsAs_ldy s rfl⟩

/-- Settles O40: with the results written as stores (`State.store_eq`), a row is its mnemonic's lemma at the row's instruction, whose bytes, cycles and address are the row's. -/
theorem storesWriteTheRegister : Obligations.StoresWriteTheRegister := by
  intro s z w
  simp only [← State.store_eq]
  exact
    ⟨runsAs_sta s rfl, runsAs_sta s rfl, runsAs_sta s rfl, runsAs_sta s rfl,
     runsAs_sta s rfl, runsAs_sta s rfl, runsAs_sta s rfl,
     runsAs_stx s rfl, runsAs_stx s rfl, runsAs_stx s rfl,
     runsAs_sty s rfl, runsAs_sty s rfl, runsAs_sty s rfl⟩

/-- Settles O41: each row is the one instruction of its mnemonic, whose operation puts the source in the destination and shows it in N and Z; TXS only sets S. -/
theorem transfersCopyRegisters : Obligations.TransfersCopyRegisters := by
  intro s
  exact
    ⟨runsAs_of_effect (i := .tax) (s.setNZ_setX s.a), runsAs_of_effect (i := .tay) (s.setNZ_setY s.a),
     runsAs_of_effect (i := .txa) (s.setNZ_setA s.x), runsAs_of_effect (i := .tya) (s.setNZ_setA s.y),
     runsAs_of_effect (i := .tsx) (s.setNZ_setX s.sp), runsAs_of_effect (i := .txs) rfl⟩

end Sys2Proof.Machine
end

section
/-! PROOFS. The branches of R243 to R251 and the return of R253: where a branch goes by the flag it tests, and the obligations about the two. -/

namespace Sys2Proof.Machine

/-- A branch taken on a set flag moves PC by the signed offset; one not taken leaves the whole state (R243). -/
theorem State.branch_on_set (s : State) (f : Bool) (o : Byte) :
    s.branch f o = if f = true then { s with pc := BitVec.ofInt 16 ((s.pc.toNat : Int) + o.toInt) } else s := by
  rw [State.branch_eq, add_sext16]
  cases f with
  | true => rfl
  | false => rfl

/-- The same for a branch that tests for a clear flag (R243). -/
theorem State.branch_on_clear (s : State) (f : Bool) (o : Byte) :
    s.branch (!f) o = if f = false then { s with pc := BitVec.ofInt 16 ((s.pc.toNat : Int) + o.toInt) } else s := by
  simp only [State.branch_on_set, Bool.not_eq_true']

/-- Settles O48: each row is the one instruction of its mnemonic, whose operation is the common branch on its flag, set for BCS, BEQ, BMI and BVS and clear for the other four. -/
theorem branchesAddTheSignedOffset : Obligations.BranchesAddTheSignedOffset := by
  intro s o
  exact
    ⟨runsAs_of_effect (i := .bcc o) (s.branch_on_clear s.p.c o), runsAs_of_effect (i := .bcs o) (s.branch_on_set s.p.c o),
     runsAs_of_effect (i := .beq o) (s.branch_on_set s.p.z o), runsAs_of_effect (i := .bmi o) (s.branch_on_set s.p.n o),
     runsAs_of_effect (i := .bne o) (s.branch_on_clear s.p.z o), runsAs_of_effect (i := .bpl o) (s.branch_on_clear s.p.n o),
     runsAs_of_effect (i := .bvc o) (s.branch_on_clear s.p.v o), runsAs_of_effect (i := .bvs o) (s.branch_on_set s.p.v o)⟩

/-- Settles O50: RTI is the return from an interrupt (`State.returnFromInterrupt_eq`), and `UnpackP` takes the six flags from the bits the statement lists. -/
theorem rtiRestoresStatusAndPc : Obligations.RtiRestoresStatusAndPc := by
  intro s
  exact runsAs_of_effect (i := .rti) s.returnFromInterrupt_eq

end Sys2Proof.Machine
end

section
/-! PROOFS. The decoder on every list of bytes (R90 to R97): what it answers by how many bytes follow the opcode, its table read at an instruction's own opcode, and the obligations about the round trips and the rejections. -/

namespace Sys2Proof

/-- Either the list ends before the operand does, or the decoder takes the operand bytes the format has and leaves the rest (R91, R95). -/
theorem decode_cons_cases (op : Byte) (tail : List Byte) :
    (tail.length < (decodeOpcode op 0#8 0#8).mode.operandCount ∧ decode (op :: tail) = .error (.truncatedOperand op)) ∨
    ∃ b1 b2 rest, tail = [b1, b2].take (decodeOpcode op 0#8 0#8).mode.operandCount ++ rest ∧
      decode (op :: tail) = .ok (decodeOpcode op b1 b2, rest) := by
  rcases Mode.operandCount_cases (decodeOpcode op 0#8 0#8).mode with h | h | h
  · exact .inr ⟨0#8, 0#8, tail, by simp [h], by simp [decode, h]⟩
  · cases tail with
    | nil => exact .inl (by simp [decode, h])
    | cons b1 rest => exact .inr ⟨b1, 0#8, rest, by simp [h], by simp [decode, h]⟩
  · match tail with
    | [] | [_] => exact .inl (by simp [decode, h])
    | b1 :: b2 :: rest => exact .inr ⟨b1, b2, rest, by simp [h], by simp [decode, h]⟩

/-- Every term of `Instr` has an operand that fits its mode (R91). -/
theorem Instr.wellFormed_eq_true (i : Instr) : i.wellFormed = true := by
  cases i <;> rfl

/-- The table read at an instruction's own opcode and operand bytes is that instruction. -/
theorem decodeOpcode_opcode_of_operands {i : Instr} {b1 b2 : Byte} (h : i.operands = i.mode.operandsOf b1 b2) :
    decodeOpcode i.opcode b1 b2 = i := by
  -- With its operand in place, each row is one row of the table, once the opcode is a numeral.
  cases i <;> cases h <;> dsimp only [Instr.opcode] <;> rfl

/-- The mode at an instruction's opcode is its own, whatever its operand (R95). -/
theorem decodeOpcode_opcode_mode (i : Instr) : (decodeOpcode i.opcode 0#8 0#8).mode = i.mode := by
  cases i <;> dsimp only [Instr.opcode] <;> rfl

theorem Instr.operandCount_mode (i : Instr) : i.mode.operandCount = i.operands.bytes.length := by
  cases i <;> rfl

/-- Decoding an instruction's bytes gives it back, whatever follows them. -/
theorem decode_encode_append (i : Instr) (rest : List Byte) : decode (encode i ++ rest) = .ok (i, rest) := by
  have hmode := decodeOpcode_opcode_mode i
  cases ho : i.operands with
  | none =>
    have hc : i.mode.operandCount = 0 := by rw [i.operandCount_mode, ho]; rfl
    have ht : decodeOpcode i.opcode 0#8 0#8 = i :=
      decodeOpcode_opcode_of_operands (by simp [ho, Mode.operandsOf, hc])
    simp [encode, ho, Operands.bytes, decode, hc, ht]
  | byte b =>
    have hc : i.mode.operandCount = 1 := by rw [i.operandCount_mode, ho]; rfl
    have ht : decodeOpcode i.opcode b 0#8 = i :=
      decodeOpcode_opcode_of_operands (by simp [ho, Mode.operandsOf, hc])
    simp [encode, ho, Operands.bytes, decode, hmode, hc, ht]
  | word w =>
    have hc : i.mode.operandCount = 2 := by rw [i.operandCount_mode, ho]; rfl
    have ht : decodeOpcode i.opcode (lo w) (hi w) = i :=
      decodeOpcode_opcode_of_operands (by simp [ho, Mode.operandsOf, hc])
    simp [encode, ho, Operands.bytes, decode, hmode, hc, ht]

/-- Settles O1: `Instr.wellFormed_eq_true` and `decode_encode_append`. -/
theorem decodeInvertsEncode : Obligations.DecodeInvertsEncode := by
  intro i rest
  exact ⟨i.wellFormed_eq_true, decode_encode_append i rest⟩

/-- Settles O2: a list that decodes is the opcode, the operand bytes its format takes, and the rest (`decode_cons_cases`), and those first bytes are the instruction's encoding (`encode_decodeOpcode`). -/
theorem encodeInvertsDecode : Obligations.EncodeInvertsDecode := by
  intro bytes rest i h
  cases bytes with
  | nil => cases h
  | cons op tail =>
    rcases decode_cons_cases op tail with ⟨-, herr⟩ | ⟨b1, b2, rest', rfl, hok⟩
    · rw [herr] at h
      cases h
    · rw [hok] at h
      cases h
      rw [encode_decodeOpcode, List.cons_append]

/-- Settles O4: of the two cases of `decode_cons_cases`, only the one whose list is too short answers an error. -/
theorem decodeRejectsOnlyShortInput : Obligations.DecodeRejectsOnlyShortInput := by
  intro bytes e
  cases bytes with
  | nil => simp [decode, eq_comm]
  | cons op tail =>
    rcases decode_cons_cases op tail with ⟨hshort, herr⟩ | ⟨b1, b2, rest, rfl, hok⟩
    · rw [herr]
      simp [hshort, eq_comm]
    · rw [hok]
      refine iff_of_false (by simp) ?_
      rintro (⟨h, -⟩ | ⟨_, _, h, hshort, -⟩)
      · cases h
      · have hcount := Mode.operandCount_cases (decodeOpcode op 0#8 0#8).mode
        cases h
        simp only [List.length_append, List.length_take, List.length_cons, List.length_nil] at hshort
        omega

/-- Settles O5: each list is one opcode byte of the table and the operand bytes its format has. -/
theorem writtenOutWordsDecode : Obligations.WrittenOutWordsDecode :=
  ⟨rfl, rfl, rfl, rfl, rfl, rfl, rfl, rfl, rfl, rfl⟩

/-- With three bytes at hand, the decoder's answer is the table's row for them. -/
theorem decode_three_bytes (op b1 b2 : Byte) :
    ∃ rest, decode [op, b1, b2] = .ok (decodeOpcode op b1 b2, rest) := by
  have h := decode_encode_append (decodeOpcode op b1 b2) ([b1, b2].drop (decodeOpcode op 0#8 0#8).mode.operandCount)
  rw [encode_decodeOpcode, List.cons_append, List.take_append_drop] at h
  exact ⟨_, h⟩

end Sys2Proof
end

section
/-! PROOFS. `clock()` in each of the four ways it goes (R94, R308), and the obligations about the poll, the two entries, the halted core and the fetch. -/

namespace Sys2Proof.Machine

theorem step_of_halted {s : State} (h : s.halted = true) : step s = .next (s.report s.config.jamCycles) := by
  rw [step, clock, if_pos h]

theorem step_of_nmi {s : State} (hh : s.halted = false) (hn : s.nmiPending = true) :
    step s = .next (((s.setNmiPending false).interruptEntry nmiVector).report interruptCycles) := by
  simp [step, clock, hh, hn]

theorem step_of_irq {s : State} (hh : s.halted = false) (hn : s.nmiPending = false) (hi : s.irq = true)
    (hp : s.p.i = false) : step s = .next ((s.interruptEntry irqVector).report interruptCycles) := by
  simp [step, clock, hh, hn, hi, hp]

theorem State.fetches_iff (s : State) :
    s.fetches = true ↔ s.halted = false ∧ s.nmiPending = false ∧ (s.irq && !s.p.i) = false := by
  simp only [State.fetches, Bool.and_eq_true, Bool.not_eq_true', and_assoc]

theorem step_of_fetches {s : State} (h : s.fetches = true) : step s = runInstr s.fetched s := by
  obtain ⟨hh, hn, hi⟩ := s.fetches_iff.mp h
  simp [step, clock, hh, hn, hi]

/-- Settles O6: the bytes at PC decode to what the step fetches (`decode_three_bytes`). -/
theorem stepRunsTheDecodedInstruction : Obligations.StepRunsTheDecodedInstruction := by
  intro s i rest hf hd
  obtain ⟨rest', hd'⟩ := decode_three_bytes (s.read s.pc) (s.read (s.pc + 1#16)) (s.read (s.pc + 2#16))
  have hi : s.fetched = i := by
    rw [hd'] at hd
    injection hd with hd
    exact congrArg Prod.fst hd
  rw [step_of_fetches hf, hi]
  rfl

/-- Settles O7, by induction on the further steps: each reports JAM_CYCLES again. -/
theorem haltedCoreStaysAsItIs : Obligations.HaltedCoreStaysAsItIs := by
  intro s n h
  induction n generalizing s with
  | zero => exact run_succ 0 s _ (step_of_halted h)
  | succ n ih =>
    rw [run_succ (n + 1) s _ (step_of_halted h)]
    exact ih (s.report s.config.jamCycles) h

/-- Settles O8: the entry through 0xFFFA, which no push reaches (`State.enterInterrupt_eq`). -/
theorem pendingNmiIsEnteredFirst : Obligations.PendingNmiIsEnteredFirst := by
  intro s hh hn
  rw [step_of_nmi hh hn, State.interruptEntry, State.enterInterrupt_eq _ _ _ (by decide) (by decide)]
  rfl

/-- Settles O9: the entry through 0xFFFE, which no push reaches (`State.enterInterrupt_eq`). -/
theorem unmaskedIrqIsEntered : Obligations.UnmaskedIrqIsEntered := by
  intro s hh hn hi hp
  rw [step_of_irq hh hn hi hp, State.interruptEntry, State.enterInterrupt_eq _ _ _ (by decide) (by decide)]
  rfl

/-- Settles O10: a `clock()` that fetches nothing answers by its poll, and every meaning answers a next state (`exec_eq_effect`). -/
theorem stepNeverFaultsOrRefuses : Obligations.StepNeverFaultsOrRefuses := by
  intro s
  by_cases hf : s.fetches = true
  · rw [step_of_fetches hf, runInstr, exec_eq_effect]
    exact ⟨_, rfl⟩
  · cases hh : s.halted with
    | true => exact ⟨_, step_of_halted hh⟩
    | false =>
      cases hn : s.nmiPending with
      | true => exact ⟨_, step_of_nmi hh hn⟩
      | false =>
        have hi : s.irq = true ∧ s.p.i = false := by simpa [State.fetches_iff, hh, hn] using hf
        exact ⟨_, step_of_irq hh hn hi.1 hi.2⟩

end Sys2Proof.Machine
end

section
/-! PROOFS. What an instruction may write (R30 to R34, R43, R44): a register outside its list is the state's own, only JAM halts, and nothing writes the inputs. -/

namespace Sys2Proof

open Machine

/-- An instruction that writes its operand back works on an address, unless its row lists A. -/
theorem Instr.place_of_modify (i : Instr) (s : State) (hi : i.mnemonic ∈ [.ASL, .LSR, .ROL, .ROR, .INC, .DEC]) :
    (∃ a, i.operandPlace s = .addr a) ∨ i.writesA = true := by
  cases i
  case aslAcc | lsrAcc | rolAcc | rorAcc => exact .inr rfl
  case aslZp | aslZpX | aslAbs | aslAbsX | lsrZp | lsrZpX | lsrAbs | lsrAbsX => exact .inl ⟨_, rfl⟩
  case rolZp | rolZpX | rolAbs | rolAbsX | rorZp | rorZpX | rorAbs | rorAbsX => exact .inl ⟨_, rfl⟩
  case incZp | incZpX | incAbs | incAbsX | decZp | decZpX | decAbs | decAbsX => exact .inl ⟨_, rfl⟩
  all_goals simp [Instr.mnemonic] at hi

/-- BRK's operation, every field of the next state written out (R252). -/
theorem Machine.State.opBrk_eq (s : State) :
    s.opBrk = { s with
      sp := s.sp - 3#8
      p := { s.p with i := true }
      pc := s.mem.readWord 0xFFFE#16
      mem := ((s.mem.write (stackAddress s.sp) (hi (s.pc + 1#16))).write (stackAddress (s.sp - 1#8)) (lo (s.pc + 1#16))).write
        (stackAddress (s.sp - 2#8)) (s.p.pack true) } := by
  rw [State.opBrk, State.enterInterrupt_eq _ _ _ (by decide) (by decide)]
  rfl

section
variable {i : Instr} {s t : State} (h : exec i s = .next t)
include h

/-- What an instruction does is its mnemonic's operation, at some operand. -/
theorem exists_effect_of_exec :
    ∃ m base ea, t = i.mnemonic.effect s m (i.operandPlace s) base ea :=
  ⟨_, _, _, eq_effect_of_exec h⟩

/-- A keeps its value unless the instruction's row lists it (R30). -/
theorem exec_a : t.a = bif i.writesA then t.a else s.a := by
  obtain ⟨m, base, ea, rfl⟩ := exists_effect_of_exec h
  cases hmn : i.mnemonic
  case ASL | LSR | ROL | ROR | INC | DEC =>
    rcases i.place_of_modify s (by simp [hmn]) with ⟨a, hp⟩ | hw
    · rw [hp]
      cases i.writesA <;> rfl
    · rw [hw]
      rfl
  all_goals rw [Instr.writesA, hmn]
  case BRK | RTI | JSR => simp [Mnemonic.effect, State.opBrk, State.opRti, State.opJsr]
  all_goals cases i.operandPlace s <;> rfl

/-- X, Y, S and PC keep their values unless the instruction's row lists them (R31 to R34). -/
theorem exec_registers :
    (t.x = bif i.writesX then t.x else s.x) ∧ (t.y = bif i.writesY then t.y else s.y) ∧
    (t.sp = bif i.writesSp then t.sp else s.sp) ∧ (t.pc = bif i.writesPc then t.pc else s.pc) := by
  obtain ⟨m, base, ea, rfl⟩ := exists_effect_of_exec h
  unfold Instr.writesX Instr.writesY Instr.writesSp Instr.writesPc
  cases i.mnemonic
  case BRK | RTI | JSR => simp [Mnemonic.effect, State.opBrk, State.opRti, State.opJsr]
  all_goals cases i.operandPlace s <;> exact ⟨rfl, rfl, rfl, rfl⟩

/-- Only JAM halts, and nothing undoes the halt (R43, R281). -/
theorem exec_halted : t.halted = bif i.mnemonic = .JAM then true else s.halted := by
  obtain ⟨m, base, ea, rfl⟩ := exists_effect_of_exec h
  cases i.mnemonic
  case BRK | RTI | JSR => simp [Mnemonic.effect, State.opBrk, State.opRti, State.opJsr]
  all_goals cases i.operandPlace s <;> rfl

/-- No instruction writes the inputs, the latch, the parameters or the recorded count. -/
theorem exec_inputs :
    t.irq = s.irq ∧ t.nmiPending = s.nmiPending ∧ t.config = s.config ∧ t.clockResult = s.clockResult := by
  obtain ⟨m, base, ea, rfl⟩ := exists_effect_of_exec h
  cases i.mnemonic
  case BRK | RTI | JSR => simp [Mnemonic.effect, State.opBrk, State.opRti, State.opJsr]
  all_goals cases i.operandPlace s <;> exact ⟨rfl, rfl, rfl, rfl⟩

end

end Sys2Proof
end

section
/-! PROOFS. The obligations about the frame of a meaning and of a step (R30 to R34, R41, R43, R44, R302). -/

namespace Sys2Proof.Machine

/-- Settles O16: each register is the state's own where its list says so (`exec_a`, `exec_registers`), and the rest is `exec_halted` and `exec_inputs`. -/
theorem onlyListedInstructionsWriteEachRegister : Obligations.OnlyListedInstructionsWriteEachRegister := by
  intro i s t h
  obtain ⟨hx, hy, hsp, hpc⟩ := exec_registers h
  exact ⟨fun hw => by simpa [hw] using exec_a h, fun hw => by simpa [hw] using hx,
    fun hw => by simpa [hw] using hy, fun hw => by simpa [hw] using hsp, fun hw => by simpa [hw] using hpc,
    fun hw => by simpa [hw] using exec_halted h, exec_inputs h⟩

/-- Settles O15: of the four ways a `clock()` goes, only the NMI's clears the latch. -/
theorem stepLeavesInputsAndParameters : Obligations.StepLeavesInputsAndParameters := by
  intro s t h
  rcases step_cases h with ⟨hh, rfl⟩ | ⟨hh, hn, rfl⟩ | ⟨hh, hn, -, -, rfl⟩ | ⟨hf, u, hu, rfl⟩
  · simp [State.report, hh]
  · simp [State.report, State.interruptEntry, hh]
  · simp [State.report, State.interruptEntry, hn]
  · obtain ⟨-, hn, -⟩ := s.fetches_iff.mp hf
    obtain ⟨hirq, hnmi, hconfig, -⟩ := exec_inputs hu
    simp [State.report, hirq, hnmi, hconfig, State.advance, hn]

theorem mnemonic_decodeOpcode_eq_jam_iff : ∀ op : Byte, (decodeOpcode op 0#8 0#8).mnemonic = .JAM ↔
    op ∈ [0x02#8, 0x12#8, 0x22#8, 0x32#8, 0x42#8, 0x52#8, 0x62#8, 0x72#8, 0x92#8, 0xB2#8, 0xD2#8, 0xF2#8] :=
  of_decide_eq_true (Eq.refl true)

/-- Settles O14: a `clock()` that runs an instruction began unhalted, so it ends halted exactly when the instruction is JAM (`exec_halted`), which the opcode byte alone decides. -/
theorem onlyJamHalts : Obligations.OnlyJamHalts := by
  intro s t h
  rcases step_cases h with ⟨hh, rfl⟩ | ⟨hh, hn, rfl⟩ | ⟨hh, hn, hi, hp, rfl⟩ | ⟨hf, u, hu, rfl⟩
  · simp [State.report, hh]
  · simp [State.report, State.interruptEntry, State.fetches, hh, hn]
  · simp [State.report, State.interruptEntry, State.fetches, hh, hi, hp]
  · obtain ⟨hh, -, -⟩ := s.fetches_iff.mp hf
    rw [← mnemonic_decodeOpcode_eq_jam_iff, ← decodeOpcode_mnemonic (s.read (s.pc + 1)) (s.read (s.pc + 2))]
    change u.halted = true ↔ s.halted = true ∨ s.fetches = true ∧ s.fetched.mnemonic = .JAM
    rw [exec_halted hu]
    simp [hh, hf, State.advance]

/-- The status `p` where a mask has a flag, `q` elsewhere. -/
def Flags.overlay (mask p q : Flags) : Flags where
  c := bif mask.c then p.c else q.c
  z := bif mask.z then p.z else q.z
  i := bif mask.i then p.i else q.i
  d := bif mask.d then p.d else q.d
  v := bif mask.v then p.v else q.v
  n := bif mask.n then p.n else q.n

theorem Flags.agreeOutside_overlay (mask p q : Flags) : Flags.agreeOutside mask (Flags.overlay mask p q) q := by
  refine ⟨?_, ?_, ?_, ?_, ?_, ?_⟩ <;> intro h <;> simp [Flags.overlay, h]

/-- The status after an instruction is the one before it outside the mnemonic's row of R41. -/
theorem exec_p {i : Instr} {s t : State} (h : exec i s = .next t) :
    t.p = Flags.overlay i.mnemonic.flagsWritten t.p s.p := by
  obtain ⟨m, base, ea, rfl⟩ := exists_effect_of_exec h
  cases i.mnemonic
  case BRK =>
    rw [Mnemonic.effect, State.opBrk_eq]
    rfl
  all_goals cases i.operandPlace s <;> rfl

/-- Settles O17: `exec_p`, which leaves nothing but the mask's flags to differ. -/
theorem flagsOutsideTheTableAreUnchanged : Obligations.FlagsOutsideTheTableAreUnchanged := by
  intro i s t h
  rw [exec_p h]
  exact Flags.agreeOutside_overlay _ _ _

end Sys2Proof.Machine
end

section
/-! PROOFS. What an instruction stores, as the list of its writes in order (R62, R66, R276): memory after a meaning is memory before with those written, at the addresses the statement lists; and the obligations that follow from it. -/

namespace Sys2Proof

open Machine

/-- The write back to a resolved operand, where it is a byte of memory. -/
def Machine.Operand.writes (op : Operand) (v : Byte) : List (Word × Byte) :=
  match op with
  | .addr a => [(a, v)]
  | .acc => []

/-- The writes of a mnemonic's operation, in order. -/
def Mnemonic.writes (mn : Mnemonic) (s : State) (op : Operand) (base ea : Word) : List (Word × Byte) :=
  match mn with
  | .STA => [(ea, s.a)]
  | .STX => [(ea, s.x)]
  | .STY => [(ea, s.y)]
  | .SAX => [(ea, s.a &&& s.x)]
  | .ASL => op.writes (aslResult (s.readOperand op))
  | .LSR => op.writes (lsrResult (s.readOperand op))
  | .ROL => op.writes (rolResult (s.readOperand op) s.p.c)
  | .ROR => op.writes (rorResult (s.readOperand op) s.p.c)
  | .INC => op.writes (s.readOperand op + 1)
  | .DEC => op.writes (s.readOperand op - 1)
  | .SLO => [(ea, aslResult (s.read ea))]
  | .RLA => [(ea, rolResult (s.read ea) s.p.c)]
  | .SRE => [(ea, lsrResult (s.read ea))]
  | .RRA => [(ea, rorResult (s.read ea) s.p.c)]
  | .DCP => [(ea, s.read ea - 1)]
  | .ISC => [(ea, s.read ea + 1)]
  | .SHA | .TAS => [(shTarget (s.a &&& s.x) base ea, shValue (s.a &&& s.x) base)]
  | .SHX => [(shTarget s.x base ea, shValue s.x base)]
  | .SHY => [(shTarget s.y base ea, shValue s.y base)]
  | .PHA => [(stackAddress s.sp, s.a)]
  | .PHP => [(stackAddress s.sp, s.p.pack true)]
  | .JSR => [(stackAddress s.sp, hi (s.pc - 1)), (stackAddress (s.sp - 1), lo (s.pc - 1))]
  | .BRK => [(stackAddress s.sp, hi (s.pc + 1)), (stackAddress (s.sp - 1), lo (s.pc + 1)),
      (stackAddress (s.sp - 2), s.p.pack true)]
  | _ => []

/-- The writes of an instruction at its resolved operand. -/
def Instr.writes (i : Instr) (s : State) : List (Word × Byte) :=
  i.mnemonic.writes s (i.operandPlace s) (i.base s) (i.ea s)

theorem effect_mem (mn : Mnemonic) (s : State) (m : Byte) (op : Operand) (base ea : Word) :
    (mn.effect s m op base ea).mem = (mn.writes s op base ea).foldl (fun n c => n.write c.1 c.2) s.mem := by
  cases mn
  case BRK =>
    rw [Mnemonic.effect, State.opBrk_eq]
    rfl
  case JSR => simp [Mnemonic.effect, State.opJsr, State.pushWord_eq, Mnemonic.writes]
  case RTI => simp [Mnemonic.effect, State.opRti, Mnemonic.writes]
  all_goals cases op <;> rfl

/-- Memory after a meaning: the instruction's writes, in order, on memory before. -/
theorem exec_mem {i : Instr} {s t : State} (h : exec i s = .next t) :
    t.mem = (i.writes s).foldl (fun n c => n.write c.1 c.2) s.mem := by
  rw [eq_effect_of_exec h, effect_mem]
  rfl

/-- The addresses written are the ones the statement lists. -/
theorem Instr.writes_map_fst (i : Instr) (s : State) : (i.writes s).map Prod.fst = i.storedAddresses s := by
  cases i <;> rfl

/-- Settles O18: an address not written keeps its byte (`Memory.read_foldl_write_ne`), and no write leaves memory as it is. -/
theorem memoryChangesOnlyAtStoredAddresses : Obligations.MemoryChangesOnlyAtStoredAddresses := by
  intro i s t h
  rw [← i.writes_map_fst s]
  constructor
  · intro a ha
    rw [State.read, exec_mem h]
    exact Memory.read_foldl_write_ne a _ _ fun c hc he => ha (List.mem_map.mpr ⟨c, hc, he⟩)
  · intro hnone
    rw [exec_mem h, List.map_eq_nil_iff.mp hnone]
    rfl

theorem Machine.Memory.wf_foldl_write (ws : List (Word × Byte)) (m : Memory) (h : m.wf = true) :
    (ws.foldl (fun n c => n.write c.1 c.2) m).wf = true := by
  induction ws generalizing m with
  | nil => exact h
  | cons c rest ih => exact ih _ (Memory.wf_write m c.1 c.2 h)

/-- Settles O11: of the four ways a `clock()` goes, the halted one writes nothing, the entries push, and an instruction's writes keep the form one by one. -/
theorem stepKeepsMemoryCanonical : Obligations.StepKeepsMemoryCanonical := by
  intro s t hs h
  unfold Invariant at hs ⊢
  rcases step_cases h with ⟨-, rfl⟩ | ⟨-, -, rfl⟩ | ⟨-, -, -, -, rfl⟩ | ⟨-, u, hu, rfl⟩
  · exact hs
  · exact State.wf_enterInterrupt (s.setNmiPending false) false nmiVector hs
  · exact State.wf_enterInterrupt s false irqVector hs
  · change u.mem.wf = true
    rw [exec_mem hu]
    exact Memory.wf_foldl_write _ _ hs

end Sys2Proof
end

section
/-! PROOFS. The decimal flag (R150, D7): no operand depends on it, no operation but PHP's and BRK's reads it, and the obligation about it. -/

namespace Sys2Proof

open Machine

theorem Machine.State.effectiveAddress_withDecimal (s : State) (d : Bool) (m : Mode) (o : Operands) :
    (s.withDecimal d).effectiveAddress m o = s.effectiveAddress m o := by
  cases m <;> cases o <;> rfl

theorem Machine.State.baseAddress_withDecimal (s : State) (d : Bool) (m : Mode) (o : Operands) :
    (s.withDecimal d).baseAddress m o = s.baseAddress m o := by
  cases m <;> cases o <;> rfl

theorem effect_withDecimal (mn : Mnemonic) (s : State) (d : Bool) (m : Byte) (op : Operand) (base ea : Word)
    (hphp : mn ≠ .PHP) (hbrk : mn ≠ .BRK) :
    (mn.effect (s.withDecimal d) m op base ea).withDecimal false = (mn.effect s m op base ea).withDecimal false := by
  cases mn
  case PHP => exact absurd rfl hphp
  case BRK => exact absurd rfl hbrk
  all_goals cases op <;> rfl

/-- An instruction resolves its operand alike in both states. -/
theorem exec_withDecimal (i : Instr) (s : State) (d : Bool) :
    exec i (s.withDecimal d) = .next
      (i.mnemonic.effect (s.withDecimal d) (i.operandByte s) (i.operandPlace s) (i.base s) (i.ea s)) := by
  rw [exec_eq_effect]
  simp only [Instr.operandByte, Instr.operandPlace, Instr.base, Instr.ea, State.effectiveAddress_withDecimal,
    State.baseAddress_withDecimal]
  rfl

/-- Settles O19: the two meanings are one operation at one operand (`exec_withDecimal`), which reads D nowhere (`effect_withDecimal`). -/
theorem onlyPushesReadTheDecimalFlag : Obligations.OnlyPushesReadTheDecimalFlag := by
  intro i s d hphp hbrk
  exact ⟨_, _, exec_eq_effect i s, exec_withDecimal i s d, effect_withDecimal _ s d _ _ _ _ hphp hbrk⟩

end Sys2Proof
end

section
/-! PROOFS. The canonical form determines the list (log entry 1): what it says of the first entry and of the keys below it, and the obligation about equal reads. -/

namespace Sys2Proof.Machine

theorem Memory.wfFrom_cons {low k : Nat} {v : Byte} {rest : Memory} :
    Memory.wfFrom low ((k, v) :: rest) = true ↔
      low ≤ k ∧ k < 0x10000 ∧ v ≠ unlistedByte ∧ Memory.wfFrom (k + 1) rest = true := by
  simp [Memory.wfFrom, and_assoc]

theorem Memory.lookup_cons (k a : Nat) (v : Byte) (rest : Memory) :
    Memory.lookup ((k, v) :: rest) a = if k = a then v else rest.lookup a := rfl

/-- A key below the lowest admitted one is not listed. -/
theorem Memory.lookup_of_lt {m : Memory} {low a : Nat} (h : Memory.wfFrom low m = true) (ha : a < low) :
    m.lookup a = unlistedByte := by
  induction m generalizing low with
  | nil => rfl
  | cons c rest ih =>
    obtain ⟨k, v⟩ := c
    obtain ⟨hlow, -, -, hrest⟩ := Memory.wfFrom_cons.mp h
    rw [Memory.lookup_cons, if_neg (by omega), ih hrest (by omega)]

/-- A list that reads like a canonical one cannot begin after the first key of that one. -/
theorem Memory.low_le_first_key {m n : Memory} {low low' k : Nat} {v : Byte}
    (hm : Memory.wfFrom low ((k, v) :: m) = true) (hn : Memory.wfFrom low' n = true)
    (heq : ∀ a < 0x10000, Memory.lookup ((k, v) :: m) a = n.lookup a) : low' ≤ k := by
  obtain ⟨-, hk, hv, -⟩ := Memory.wfFrom_cons.mp hm
  by_contra hlt
  have h := heq k hk
  rw [Memory.lookup_cons, if_pos rfl, Memory.lookup_of_lt hn (by omega)] at h
  exact hv h

/-- Two canonical lists with equal lookups begin at one key with one byte, and so on along both. -/
theorem Memory.eq_of_lookup_eq {m n : Memory} {low : Nat} (hm : Memory.wfFrom low m = true)
    (hn : Memory.wfFrom low n = true) (heq : ∀ a < 0x10000, m.lookup a = n.lookup a) : m = n := by
  induction m generalizing n low with
  | nil =>
    cases n with
    | nil => rfl
    | cons d n =>
      have := Memory.low_le_first_key hn (low' := d.1 + 1) rfl fun a ha => (heq a ha).symm
      omega
  | cons c m ih =>
    cases n with
    | nil =>
      have := Memory.low_le_first_key hm (low' := c.1 + 1) rfl heq
      omega
    | cons d n =>
      obtain ⟨⟨j, v⟩, k, w⟩ := c, d
      obtain ⟨-, hj, hv, hm'⟩ := Memory.wfFrom_cons.mp hm
      obtain ⟨-, hk, hw, hn'⟩ := Memory.wfFrom_cons.mp hn
      have hkj : k ≤ j := Memory.low_le_first_key hm (Memory.wfFrom_cons.mpr ⟨le_rfl, hk, hw, hn'⟩) heq
      have hjk : j ≤ k := Memory.low_le_first_key hn (Memory.wfFrom_cons.mpr ⟨le_rfl, hj, hv, hm'⟩)
        fun a ha => (heq a ha).symm
      obtain rfl : j = k := Nat.le_antisymm hjk hkj
      have hvw : v = w := by simpa [Memory.lookup_cons] using heq j hj
      have hrest : m = n := ih hm' hn' fun a ha => by
        by_cases haj : a < j + 1
        · rw [Memory.lookup_of_lt hm' haj, Memory.lookup_of_lt hn' haj]
        · simpa [Memory.lookup_cons, show j ≠ a by omega] using heq a ha
      rw [hvw, hrest]

/-- Settles O21: reads at the addresses are lookups at the keys below 0x10000 (`Memory.eq_of_lookup_eq`). -/
theorem canonicalMemoriesWithEqualReadsAreEqual : Obligations.CanonicalMemoriesWithEqualReadsAreEqual := by
  intro m n hm hn heq
  refine Memory.eq_of_lookup_eq hm hn fun a ha => ?_
  simpa [Memory.read, Nat.mod_eq_of_lt ha] using heq (BitVec.ofNat 16 a)

end Sys2Proof.Machine
end

section
/-! PROOFS. The stack over several bytes (R66, R136, R137, C9): what a run of pushes leaves at other addresses, a word and an interrupt frame popped right after they were pushed, and the obligations about them. -/

namespace Sys2Proof.Machine

theorem stackAddress_ne {a b : Byte} (h : a ≠ b) : stackAddress a ≠ stackAddress b :=
  fun he => h ((stackAddress_inj a b).mp he)

theorem sub_two_add_one (b : Byte) : b - 2#8 + 1#8 = b - 1#8 := by bv_omega
theorem sub_three_add_one (b : Byte) : b - 3#8 + 1#8 = b - 2#8 := by bv_omega
theorem sub_three_add_two (b : Byte) : b - 3#8 + 2#8 = b - 1#8 := by bv_omega

/-- A word popped right after it was pushed comes back, and S with it. -/
theorem State.popWord_pushWord (s : State) (w : Word) :
    (s.pushWord w).popWord = (w, { s with mem := (s.pushWord w).mem }) := by
  have h01 : stackAddress s.sp ≠ stackAddress (s.sp - 1#8) := stackAddress_ne (by bv_omega)
  simp [State.popWord_eq, State.pushWord_eq, State.read, sub_two_add_one, Memory.read_write_ne _ _ _ _ h01]

theorem State.enterInterrupt_sp (s : State) (b : Bool) (vector : Word) : (s.enterInterrupt b vector).sp = s.sp - 3#8 := by
  simp [State.enterInterrupt, State.pushWord_eq, State.push_eq, sub_two_sub_one]

/-- A return right after an entry comes back to the state before it, but for what the entry pushed. -/
theorem State.returnFromInterrupt_enterInterrupt (s : State) (b : Bool) (vector : Word) :
    (s.enterInterrupt b vector).returnFromInterrupt = { s with mem := (s.enterInterrupt b vector).mem } := by
  have h01 : stackAddress s.sp ≠ stackAddress (s.sp - 1#8) := stackAddress_ne (by bv_omega)
  have h02 : stackAddress s.sp ≠ stackAddress (s.sp - 2#8) := stackAddress_ne (by bv_omega)
  have h12 : stackAddress (s.sp - 1#8) ≠ stackAddress (s.sp - 2#8) := stackAddress_ne (by bv_omega)
  simp [State.returnFromInterrupt_eq, State.read, State.enterInterrupt_mem, State.enterInterrupt_sp, sub_three_add_one,
    sub_three_add_two, Memory.read_write_ne _ _ _ _ h01, Memory.read_write_ne _ _ _ _ h02,
    Memory.read_write_ne _ _ _ _ h12]

/-- A pushed word reaches the stack bytes at S and S - 1. -/
theorem State.read_pushWord_ne (s : State) (w : Word) {a : Word} (h0 : a ≠ stackAddress s.sp)
    (h1 : a ≠ stackAddress (s.sp - 1#8)) : (s.pushWord w).read a = s.read a := by
  rw [State.pushWord, State.read_push_ne _ _ h1, State.read_push_ne _ _ h0]

/-- RTS pops the word JSR pushed, PC - 1, and adds 1. -/
theorem State.opRts_opJsr (s : State) (target : Word) :
    (s.opJsr target).opRts = { s with mem := (s.opJsr target).mem } := by
  -- JSR's last step sets PC, which RTS does not read.
  change (s.pushWord (s.pc - 1)).opRts = _
  simp [State.opRts, State.popWord_pushWord, State.opJsr, State.setPc]

/-- Settles O47: the return is `State.opRts_opJsr`, the frame that of the word JSR pushed. -/
theorem returnComesBackAfterTheCall : Obligations.ReturnComesBackAfterTheCall := by
  intro s target
  exact ⟨s.opJsr target, { s with mem := (s.opJsr target).mem }, rfl, rfl, congrArg _ (s.opRts_opJsr target), rfl,
    fun a h0 h1 => s.read_pushWord_ne (s.pc - 1) h0 h1⟩

/-- RTI right after an entry, as an instruction, with the frame over the three pushed bytes. -/
theorem rti_after_entry (s : State) (b : Bool) (vector : Word) :
    ∃ t : State, exec .rti (s.enterInterrupt b vector) = .next t ∧ t = { s with mem := (s.enterInterrupt b vector).mem } ∧
      ∀ a : Word, a ≠ stackAddress s.sp → a ≠ stackAddress (s.sp - 1#8) → a ≠ stackAddress (s.sp - 2#8) →
        t.read a = s.read a := by
  refine ⟨{ s with mem := (s.enterInterrupt b vector).mem }, ?_, rfl, s.enterInterrupt_read_ne b vector⟩
  rw [← State.returnFromInterrupt_enterInterrupt]
  rfl

/-- Settles O51: an interrupt and BRK enter alike, BRK with PC one byte further (`rti_after_entry`). -/
theorem rtiUndoesInterruptEntry : Obligations.RtiUndoesInterruptEntry := by
  intro s vector
  exact ⟨rti_after_entry s false vector, _, (rti_after_entry (s.setPc (s.pc + 1)) true irqVector).imp fun _ h => ⟨rfl, h⟩⟩

theorem State.pushAll_cons (s : State) (v : Byte) (vs : List Byte) : s.pushAll (v :: vs) = (s.push v).pushAll vs := rfl

theorem State.popAll_succ (n : Nat) (s : State) :
    State.popAll (n + 1) s = (s.pop.1 :: (State.popAll n s.pop.2).1, (State.popAll n s.pop.2).2) := rfl

/-- The last of n + 1 pops is one pop more after n. -/
theorem State.popAll_succ_last (n : Nat) (s : State) :
    State.popAll (n + 1) s =
      ((State.popAll n s).1 ++ [(State.popAll n s).2.pop.1], (State.popAll n s).2.pop.2) := by
  induction n generalizing s with
  | zero => rfl
  | succ n ih =>
    rw [State.popAll_succ, ih s.pop.2]
    rfl

theorem State.push_sp_sub (s : State) (v : Byte) (k : Nat) :
    (s.push v).sp - BitVec.ofNat 8 k = s.sp - BitVec.ofNat 8 (k + 1) := by
  rw [State.push_eq, BitVec.ofNat_add]
  bv_omega

/-- A run of pushes reaches the stack bytes from S down, one for each byte. -/
theorem State.read_pushAll_ne (s : State) (vs : List Byte) {a : Word}
    (h : ∀ k < vs.length, a ≠ stackAddress (s.sp - BitVec.ofNat 8 k)) : (s.pushAll vs).read a = s.read a := by
  induction vs generalizing s with
  | nil => rfl
  | cons v vs ih =>
    rw [State.pushAll_cons, ih, State.read_push_ne s v (by simpa using h 0 (by simp))]
    intro k hk
    rw [State.push_sp_sub]
    exact h (k + 1) (by simpa using hk)

/-- As many pops as pushes bring S back, however many; what was pushed stays in memory. -/
theorem State.popAll_pushAll_snd (s : State) (vs : List Byte) :
    (State.popAll vs.length (s.pushAll vs)).2 = { s with mem := (s.pushAll vs).mem } := by
  induction vs generalizing s with
  | nil => rfl
  | cons v vs ih =>
    rw [List.length_cons, State.pushAll_cons, State.popAll_succ_last, ih]
    simp [State.pop_eq, State.push_eq]

/-- Up to 256 pushes reach distinct bytes, so the pops answer all of them, the last pushed first (C9). -/
theorem State.popAll_pushAll_fst (s : State) (vs : List Byte) (hlen : vs.length ≤ 256) :
    (State.popAll vs.length (s.pushAll vs)).1 = vs.reverse := by
  induction vs generalizing s with
  | nil => rfl
  | cons v vs ih =>
    rw [List.length_cons] at hlen
    have hfirst : ((s.push v).pushAll vs).read (stackAddress s.sp) = v := by
      rw [State.read_pushAll_ne, State.read_push_same]
      intro k hk
      rw [State.push_sp_sub]
      exact stackAddress_ne (by bv_omega)
    rw [List.length_cons, State.pushAll_cons, State.popAll_succ_last, ih _ (by omega), State.popAll_pushAll_snd,
      List.reverse_cons]
    simpa [State.pop_eq, State.push_eq, State.read] using hfirst

/-- Settles O25. -/
theorem popsReturnPushesInReverse : Obligations.PopsReturnPushesInReverse := by
  intro s vs
  exact ⟨s.popAll_pushAll_fst vs, s.popAll_pushAll_snd vs⟩

end Sys2Proof.Machine
end

section
/-! PROOFS. ADC and SBC in exact arithmetic (R150, R151): the sign-bit formula of V is the signed overflow, subtraction is addition of the complement, and the obligations about the two. -/

namespace Sys2Proof.Machine

theorem and_sign_bit_ne_zero (x : Byte) : x &&& 0x80#8 ≠ 0#8 ↔ x.msb = true := by
  revert x
  decide

/-- V's formula: operands of one sign and a result of the other (R40). -/
theorem overflow_formula (a b r : Byte) :
    (~~~(a ^^^ b) &&& (a ^^^ r) &&& 0x80#8) ≠ 0#8 ↔ a.msb = b.msb ∧ a.msb ≠ r.msb := by
  rw [and_sign_bit_ne_zero]
  simp

/-- V is the signed overflow of the sum with carry. -/
theorem overflow_iff (a b : Byte) (c : Bool) :
    (~~~(a ^^^ b) &&& (a ^^^ BitVec.ofNat 8 (a.toNat + b.toNat + c.toNat)) &&& 0x80#8) ≠ 0#8 ↔
      a.toInt + b.toInt + c.toNat < -128 ∨ 127 < a.toInt + b.toInt + c.toNat := by
  have ha := a.isLt
  have hb := b.isLt
  have hc := c.toNat_lt
  rw [overflow_formula]
  simp only [BitVec.msb_eq_decide, BitVec.toInt_eq_toNat_cond, BitVec.toNat_ofNat, decide_eq_decide, ne_eq]
  split <;> split <;> omega

theorem toNat_complement (m : Byte) : (~~~m).toNat = 255 - m.toNat := by
  simp [BitVec.toNat_not]

/-- The complement is one less than the negation. -/
theorem toInt_complement (m : Byte) : (~~~m).toInt = -1 - m.toInt := by
  have hm := m.isLt
  simp only [BitVec.toInt_eq_toNat_cond, toNat_complement]
  split <;> split <;> omega

/-- The three laws of one addition (41_arithmetic.md). -/
theorem State.opAdc_laws (s : State) (m : Byte) :
    (s.opAdc m).a.toNat = (s.a.toNat + m.toNat + s.p.c.toNat) % 256 ∧
    ((s.opAdc m).p.c = true ↔ 256 ≤ s.a.toNat + m.toNat + s.p.c.toNat) ∧
    ((s.opAdc m).p.v = true ↔
      s.a.toInt + m.toInt + s.p.c.toNat < -128 ∨ 127 < s.a.toInt + m.toInt + s.p.c.toNat) := by
  refine ⟨BitVec.toNat_ofNat _ _, decide_eq_true_iff, ?_⟩
  rw [← overflow_iff]
  exact decide_eq_true_iff

/-- Settles O30: SBC is ADC of the complement, which is 255 - m unsigned and -1 - m signed. -/
theorem addAndSubtractObeyIntegerArithmetic : Obligations.AddAndSubtractObeyIntegerArithmetic := by
  intro s m
  obtain ⟨ha, hc, hv⟩ := s.opAdc_laws m
  obtain ⟨ha', hc', hv'⟩ := s.opAdc_laws (~~~m)
  have hm := m.isLt
  rw [toNat_complement] at ha' hc'
  rw [toInt_complement] at hv'
  refine ⟨s.opAdc m, s.opAdc (~~~m), rfl, rfl, ha, hc, hv, ?_, ?_, ?_⟩
  · omega
  · rw [hc']
    omega
  · rw [hv']
    omega

/-- Adding and then subtracting a byte gives A back: the carry in is 0 for the one, and no borrow for the other. -/
theorem add_then_add_complement (a m : Byte) :
    BitVec.ofNat 8 ((BitVec.ofNat 8 (a.toNat + m.toNat + 0)).toNat + (~~~m).toNat + 1) = a := by
  have ha := a.isLt
  have hm := m.isLt
  apply BitVec.eq_of_toNat_eq
  rw [toNat_complement, BitVec.toNat_ofNat, BitVec.toNat_ofNat]
  omega

/-- Settles O31: A by `add_then_add_complement`; the four operations write nothing else but flags, neither I nor D. -/
theorem adcThenSbcRestoresA : Obligations.AdcThenSbcRestoresA := by
  intro s m
  refine ⟨s.opClc, s.opClc.opAdc m, (s.opClc.opAdc m).opSec, (s.opClc.opAdc m).opSec.opSbc m, rfl, rfl, rfl, rfl,
    ?_, rfl, rfl⟩
  have ha : ((s.opClc.opAdc m).opSec.opSbc m).a = s.a := add_then_add_complement s.a m
  rw [← ha]
  rfl

end Sys2Proof.Machine
end

section
/-! PROOFS. ROL and ROR on A as rotations of the nine bits of C and A (R172, R173), and the obligation about nine of them. -/

namespace Sys2Proof.Machine

/-- C and A as one nine-bit value, C at the top. -/
def State.carryA (s : State) : BitVec 9 := BitVec.ofBool s.p.c ++ s.a

theorem State.getLsbD_carryA (s : State) (k : Nat) :
    s.carryA.getLsbD k = if k < 8 then s.a.getLsbD k else (BitVec.ofBool s.p.c).getLsbD (k - 8) :=
  BitVec.getLsbD_append

theorem State.eq_of_carryA_eq {s t : State} (h : s.carryA = t.carryA) : s.a = t.a ∧ s.p.c = t.p.c := by
  constructor
  · apply BitVec.eq_of_getLsbD_eq
    intro k hk
    have hbit := congrArg (fun v => v.getLsbD k) h
    simpa only [State.getLsbD_carryA, if_pos hk] using hbit
  · have hbit := congrArg (fun v => v.getLsbD 8) h
    simpa only [State.getLsbD_carryA, Nat.lt_irrefl, if_false, Nat.sub_self, BitVec.getLsbD_ofBool, decide_true,
      Bool.true_and] using hbit

theorem rolResult_append : ∀ (a : Byte) (c : Bool),
    BitVec.ofBool (a.getLsbD 7) ++ rolResult a c = (BitVec.ofBool c ++ a).rotateLeft 1 := by
  decide

theorem rorResult_append : ∀ (a : Byte) (c : Bool),
    BitVec.ofBool (a.getLsbD 0) ++ rorResult a c = (BitVec.ofBool c ++ a).rotateRight 1 := by
  decide

theorem rotateRight_rotateLeft_one : ∀ v : BitVec 9, (v.rotateLeft 1).rotateRight 1 = v := by
  decide

theorem rotateLeft_nine_times : ∀ v : BitVec 9, (fun u : BitVec 9 => u.rotateLeft 1)^[9] v = v := by
  decide

theorem State.carryA_opRol (s : State) : (s.opRol .acc).carryA = s.carryA.rotateLeft 1 :=
  rolResult_append s.a s.p.c

theorem State.carryA_opRor (s : State) : (s.opRor .acc).carryA = s.carryA.rotateRight 1 :=
  rorResult_append s.a s.p.c

/-- Settles O59: each ROL A is a rotation of the nine bits by one, and the nine bits hold A and C. -/
theorem nineRotatesComeBack : Obligations.NineRotatesComeBack := by
  intro s
  constructor
  · refine ⟨(fun u : State => u.opRol .acc)^[9] s, rfl, State.eq_of_carryA_eq ?_⟩
    have hsemi : Function.Semiconj State.carryA (fun u => u.opRol .acc) (fun v => v.rotateLeft 1) := State.carryA_opRol
    rw [(hsemi.iterate_right 9).eq, rotateLeft_nine_times]
  · refine ⟨s.opRol .acc, (s.opRol .acc).opRor .acc, rfl, rfl, State.eq_of_carryA_eq ?_⟩
    rw [State.carryA_opRor, State.carryA_opRol, rotateRight_rotateLeft_one]

end Sys2Proof.Machine
end

section
/-! PROOFS. The undocumented composites against the two documented instructions they are made of (R260, D21): the byte the first writes is the one the second reads, and the obligations about the pairs. -/

namespace Sys2Proof.Machine

/-- Two instructions in a row do what one does whose operation is the two operations in a row. -/
theorem sequence_of_eq {both first second : Instr} {s s1 s2 u : State} (hfirst : exec first s = .next s1)
    (hsecond : exec second s1 = .next s2) (hboth : exec both s = .next u) (h : u = s2) :
    ∃ s1 s2 : State, exec first s = .next s1 ∧ exec second s1 = .next s2 ∧ exec both s = .next s2 :=
  ⟨s1, s2, hfirst, hsecond, h ▸ hboth⟩

/-- A shifted byte is the one read back from its address. -/
theorem State.read_writeShifted (s : State) (a : Word) (r : Byte) (out : Bool) :
    (s.writeShifted (.addr a) r out).read a = r :=
  Memory.read_write_same s.mem a r

theorem State.read_opInc (s : State) (a : Word) : (s.opInc (.addr a)).read a = s.read a + 1 :=
  Memory.read_write_same s.mem a _

theorem State.read_opDec (s : State) (a : Word) : (s.opDec (.addr a)).read a = s.read a - 1 :=
  Memory.read_write_same s.mem a _

section
variable (s : State) (a : Word)

theorem State.opSlo_eq_asl_ora : s.opSlo a = (s.opAsl (.addr a)).opOra ((s.opAsl (.addr a)).read a) := by
  rw [State.opAsl, State.read_writeShifted]
  rfl

theorem State.opRla_eq_rol_and : s.opRla a = (s.opRol (.addr a)).opAnd ((s.opRol (.addr a)).read a) := by
  rw [State.opRol, State.read_writeShifted]
  rfl

theorem State.opSre_eq_lsr_eor : s.opSre a = (s.opLsr (.addr a)).opEor ((s.opLsr (.addr a)).read a) := by
  rw [State.opLsr, State.read_writeShifted]
  rfl

theorem State.opRra_eq_ror_adc : s.opRra a = (s.opRor (.addr a)).opAdc ((s.opRor (.addr a)).read a) := by
  rw [State.opRor, State.read_writeShifted]
  rfl

theorem State.opDcp_eq_dec_cmp : s.opDcp a = (s.opDec (.addr a)).opCmp ((s.opDec (.addr a)).read a) := by
  rw [State.read_opDec, State.opDcp]

theorem State.opIsc_eq_inc_sbc : s.opIsc a = (s.opInc (.addr a)).opSbc ((s.opInc (.addr a)).read a) := by
  rw [State.read_opInc, State.opIsc]

end

theorem State.opLax_eq_lda_tax (s : State) (m : Byte) : s.opLax m = (s.opLda m).opTax := rfl

theorem or_ones_and (a m : Byte) : (a ||| 0xFF#8) &&& m = m := by
  rw [show (0xFF#8 : Byte) = BitVec.allOnes 8 from rfl, BitVec.or_allOnes, BitVec.allOnes_and]

/-- With the default constant, A drops out of ANE (D16). -/
theorem State.opAne_eq_txa_and (s : State) (m : Byte) (h : s.config.aneConst = 0xFF#8) :
    s.opAne m = s.opTxa.opAnd m := by
  rw [State.opAne, h, or_ones_and]
  rfl

/-- With the default constant, A drops out of LXA (D16). -/
theorem State.opLxa_eq_lda_tax (s : State) (m : Byte) (h : s.config.lxaConst = 0xFF#8) :
    s.opLxa m = (s.opLda m).opTax := by
  rw [State.opLxa, h, or_ones_and, State.opLax_eq_lda_tax]

/-- Settles O58: each composite is its two operations at one operand, which no first operation moves, as it writes neither X nor Y nor the pointer it was resolved by. -/
theorem compositesEqualTheirTwoInstructions : Obligations.CompositesEqualTheirTwoInstructions := by
  intro s i z w
  iterate 4 refine ⟨sequence_of_eq rfl rfl rfl (s.opSlo_eq_asl_ora _), ?_⟩
  iterate 4 refine ⟨sequence_of_eq rfl rfl rfl (s.opRla_eq_rol_and _), ?_⟩
  iterate 4 refine ⟨sequence_of_eq rfl rfl rfl (s.opSre_eq_lsr_eor _), ?_⟩
  iterate 4 refine ⟨sequence_of_eq rfl rfl rfl (s.opRra_eq_ror_adc _), ?_⟩
  iterate 4 refine ⟨sequence_of_eq rfl rfl rfl (s.opDcp_eq_dec_cmp _), ?_⟩
  iterate 4 refine ⟨sequence_of_eq rfl rfl rfl (s.opIsc_eq_inc_sbc _), ?_⟩
  iterate 5 refine ⟨sequence_of_eq rfl rfl rfl (s.opLax_eq_lda_tax _), ?_⟩
  exact ⟨sequence_of_eq rfl rfl rfl rfl, fun h => sequence_of_eq rfl rfl rfl (s.opAne_eq_txa_and i h),
    fun h => sequence_of_eq rfl rfl rfl (s.opLxa_eq_lda_tax i h), rfl⟩

/-- Settles O60: the same operations, with the address resolved before the first. -/
theorem compositesInUndocumentedModesEqualTheirTwoInstructions :
    Obligations.CompositesInUndocumentedModesEqualTheirTwoInstructions := by
  intro s z w
  iterate 3 refine ⟨sequence_of_eq rfl rfl rfl (s.opSlo_eq_asl_ora _), ?_⟩
  iterate 3 refine ⟨sequence_of_eq rfl rfl rfl (s.opRla_eq_rol_and _), ?_⟩
  iterate 3 refine ⟨sequence_of_eq rfl rfl rfl (s.opSre_eq_lsr_eor _), ?_⟩
  iterate 3 refine ⟨sequence_of_eq rfl rfl rfl (s.opRra_eq_ror_adc _), ?_⟩
  iterate 3 refine ⟨sequence_of_eq rfl rfl rfl (s.opDcp_eq_dec_cmp _), ?_⟩
  iterate 3 refine ⟨sequence_of_eq rfl rfl rfl (s.opIsc_eq_inc_sbc _), ?_⟩
  exact sequence_of_eq rfl rfl rfl (s.opLax_eq_lda_tax _)

end Sys2Proof.Machine
end

section
/-! PROOFS. The reset (R49 to R54, R330), and the addresses of the modes (R121 to R133) in exact arithmetic, with their obligations. -/

namespace Sys2Proof.Machine

/-- Settles O12: the reset call on an empty bus with default parameters (`State.reset_eq_reset_call`), and `Memory.wf_nil`. -/
theorem resetStateIsTheSpecsAndMeetsInvariant : Obligations.ResetStateIsTheSpecsAndMeetsInvariant :=
  ⟨State.reset_eq_reset_call State.reset rfl rfl rfl, Memory.wf_nil, rfl, rfl, rfl⟩

/-- Settles O13: PC is the only register whose reset value depends on the mode. -/
theorem resetCallGivesTheResetValues : Obligations.ResetCallGivesTheResetValues := by
  intro s
  refine ⟨rfl, fun hvector => ?_, fun hzero => ?_⟩
  · change resetPc s.config s.mem = _
    rw [resetPc, hvector]
    rfl
  · change resetPc s.config s.mem = _
    rw [resetPc, hzero]
    rfl

theorem zext16_toNat (b : Byte) : (zext16 b).toNat = b.toNat := by
  have hb := b.isLt
  rw [zext16, BitVec.toNat_setWidth]
  omega

/-- An index added to a 16-bit address carries into the high byte, mod 2^16 (R123). -/
theorem add_zext16_toNat (w : Word) (b : Byte) : (w + zext16 b).toNat = (w.toNat + b.toNat) % 65536 := by
  rw [BitVec.toNat_add, zext16_toNat]

/-- An index added to a zero-page address stays in the zero page (R126). -/
theorem zext16_add_toNat (z b : Byte) : (zext16 (z + b)).toNat = (z.toNat + b.toNat) % 256 := by
  rw [zext16_toNat, BitVec.toNat_add]

/-- Settles O23: the sums are `zext16_add_toNat` and `add_zext16_toNat`; the resolver's row for each mode is its definition. -/
theorem addressingModesComputeTheirAddresses : Obligations.AddressingModesComputeTheirAddresses := by
  intro s z w
  exact ⟨zext16_toNat z, zext16_add_toNat z s.x, zext16_add_toNat z s.y, rfl, add_zext16_toNat w s.x,
    add_zext16_toNat w s.y, rfl, add_zext16_toNat _ s.y, stackAddress_toNat s.sp,
    rfl, rfl, rfl, rfl, rfl, rfl, rfl, rfl, rfl, fun o => ⟨rfl, rfl, rfl, rfl⟩⟩

end Sys2Proof.Machine
end

section
/-! PROOFS. The documented rows that are left (R150, R151, R163, R180 to R183, R220 to R231, R240 to R242, R252): each operation with the next state written out, and the obligations about the rows. -/

namespace Sys2Proof.Machine

/-- Settles O28: each row is ADC's operation on the row's operand byte, whose fields are the statement's. -/
theorem adcAddsWithCarry : Obligations.AdcAddsWithCarry := by
  intro s i z w
  iterate 7 refine ⟨runsAs_of_effect rfl, ?_⟩
  exact runsAs_of_effect rfl

/-- Settles O29: each row is ADC's operation on the complement of the row's operand byte. -/
theorem sbcAddsTheComplement : Obligations.SbcAddsTheComplement := by
  intro s i z w
  iterate 8 refine ⟨runsAs_of_effect rfl, ?_⟩
  exact runsAs_of_effect rfl

/-- Settles O33: both rows are BIT's operation, which writes the three flags and nothing else. -/
theorem bitTestsMemoryAgainstA : Obligations.BitTestsMemoryAgainstA := by
  intro s z w
  exact ⟨runsAs_of_effect rfl, runsAs_of_effect rfl⟩

/-- Settles O36: each row is the one compare (`State.opCompare_eq`) of its register and operand byte. -/
theorem comparesSetFlagsOfTheDifference : Obligations.ComparesSetFlagsOfTheDifference := by
  intro s i z w
  iterate 13 refine ⟨runsAs_of_effect rfl, ?_⟩
  exact runsAs_of_effect rfl

/-- Settles O42: a push or a pop (`State.push_eq`, `State.pop_eq`) of A or of the status byte. -/
theorem stackInstructionsMoveAAndP : Obligations.StackInstructionsMoveAAndP := by
  intro s
  exact ⟨runsAs_of_effect (s.push_eq s.a), runsAs_of_effect (s.push_eq (s.p.pack true)),
    runsAs_of_effect rfl, runsAs_of_effect rfl⟩

/-- Settles O43: each operation sets the one flag. -/
theorem flagInstructionsWriteOneFlag : Obligations.FlagInstructionsWriteOneFlag := by
  intro s
  iterate 6 refine ⟨runsAs_of_effect rfl, ?_⟩
  exact runsAs_of_effect rfl

/-- Settles O44: NOP's operation is the state itself, in all 28 rows. -/
theorem nopsChangeNothing : Obligations.NopsChangeNothing := by
  intro s i z w
  iterate 27 refine ⟨runsAs_of_effect rfl, ?_⟩
  exact runsAs_of_effect rfl

/-- Settles O57: JAM's operation sets the halt flag, in all twelve rows. -/
theorem jamHaltsTheCore : Obligations.JamHaltsTheCore := by
  intro s
  iterate 11 refine ⟨runsAs_of_effect rfl, ?_⟩
  exact runsAs_of_effect rfl

/-- The low byte of the next address, which wraps inside the page. -/
theorem lo_add_one (w : Word) : lo (w + 1) = lo w + 1 := by
  apply BitVec.eq_of_toNat_eq
  rw [lo_toNat, BitVec.toNat_add, BitVec.toNat_add, lo_toNat]
  change (w.toNat + 1) % 65536 % 256 = (w.toNat % 256 + 1) % 256
  omega

theorem getLsbD_joinWord (h l : Byte) (k : Nat) :
    (joinWord h l).getLsbD k = if k < 8 then l.getLsbD k else h.getLsbD (k - 8) :=
  BitVec.getLsbD_append

/-- The high byte of one word and the low byte of another, by masks. -/
theorem joinWord_hi_lo_eq_masks (v w : Word) : joinWord (hi v) (lo w) = (v &&& 0xFF00#16) ||| (w &&& 0x00FF#16) := by
  apply BitVec.eq_of_getLsbD_eq
  intro k hk
  rw [getLsbD_joinWord]
  interval_cases k <;> simp [hi, lo]

/-- Settles O45: both targets are the mode's address; inside the page, the second byte's address is the statement's masks (`joinWord_hi_lo_eq_masks`, `lo_add_one`). -/
theorem jumpsSetPc : Obligations.JumpsSetPc := by
  intro s w
  refine ⟨runsAs_of_effect (i := .jmpAbs w) rfl, runsAs_of_effect (i := .jmpInd w) ?_⟩
  rw [← joinWord_hi_lo_eq_masks, lo_add_one]
  rfl

/-- JSR's operation, every field of the next state written out (R241). -/
theorem State.opJsr_eq (s : State) (target : Word) :
    s.opJsr target = { s with
      pc := target, sp := s.sp - 2#8
      mem := (s.mem.write (stackAddress s.sp) (hi (s.pc - 1#16))).write (stackAddress (s.sp - 1#8)) (lo (s.pc - 1#16)) } := by
  rw [State.opJsr, State.pushWord_eq]
  rfl

/-- RTS's operation, every field of the next state written out (R242). -/
theorem State.opRts_eq (s : State) :
    s.opRts = { s with
      sp := s.sp + 2#8, pc := joinWord (s.read (stackAddress (s.sp + 2#8))) (s.read (stackAddress (s.sp + 1#8))) + 1 } := by
  rw [State.opRts, State.popWord_eq]
  rfl

/-- Settles O46: `State.opJsr_eq` and `State.opRts_eq`. -/
theorem subroutineCallAndReturn : Obligations.SubroutineCallAndReturn := by
  intro s w
  exact ⟨runsAs_of_effect (i := .jsrAbs w) (s.opJsr_eq w), runsAs_of_effect (i := .rts) s.opRts_eq⟩

/-- Settles O49: `State.opBrk_eq`. -/
theorem brkEntersTheInterruptSequence : Obligations.BrkEntersTheInterruptSequence := by
  intro s
  exact runsAs_of_effect (i := .brk) s.opBrk_eq

end Sys2Proof.Machine
end

section
/-! PROOFS. The undocumented composites row by row (R261 to R280): each row is its mnemonic's operation, and the obligations about the rows. -/

namespace Sys2Proof.Machine

/-- Settles O52: each row is its mnemonic's operation at the row's address; the rotated byte is `rolResult_eq`. -/
theorem shiftAndCombineComposites : Obligations.ShiftAndCombineComposites := by
  intro s z w
  simp only [← rolResult_eq]
  iterate 20 refine ⟨runsAs_of_effect rfl, ?_⟩
  exact runsAs_of_effect rfl

/-- ISC's operation, every field of the next state written out (R266): the byte written is the one subtracted. -/
theorem State.opIsc_eq (s : State) (a : Word) :
    s.opIsc a =
      let r := s.read a + 1
      let sum := s.a.toNat + (~~~r).toNat + s.p.c.toNat
      let n := BitVec.ofNat 8 sum
      { s with
        mem := s.mem.write a r, a := n
        p := { s.p with
          c := decide (sum > 0xFF), v := decide ((~~~(s.a ^^^ ~~~r) &&& (s.a ^^^ n) &&& 0x80#8) ≠ 0#8)
          n := n.getLsbD 7, z := decide (n = 0#8) } } := rfl

/-- Settles O53: each row is its mnemonic's operation at the row's address; the rotated byte is `rorResult_eq`. -/
theorem rotateAddAndStepCompareComposites : Obligations.RotateAddAndStepCompareComposites := by
  intro s z w
  simp only [← rorResult_eq]
  iterate 14 refine ⟨runsAs_of_effect rfl, ?_⟩
  iterate 6 refine ⟨runsAs_of_effect (s.opIsc_eq _), ?_⟩
  exact runsAs_of_effect (s.opIsc_eq _)

/-- Settles O54: each row is its mnemonic's operation on the row's byte or address. -/
theorem loadAndStoreComposites : Obligations.LoadAndStoreComposites := by
  intro s z w
  iterate 10 refine ⟨runsAs_of_effect rfl, ?_⟩
  exact runsAs_of_effect rfl

/-- Settles O55: each row is its mnemonic's operation on the operand byte; ARR's rotated byte is `rorResult_eq`. -/
theorem immediateComposites : Obligations.ImmediateComposites := by
  intro s i
  simp only [← rorResult_eq]
  iterate 6 refine ⟨runsAs_of_effect rfl, ?_⟩
  exact runsAs_of_effect rfl

/-- Settles O56: each row is `State.storeHigh` at the row's base and address (`State.storeHigh_eq`), for TAS with S set first. -/
theorem highByteStores : Obligations.HighByteStores := by
  intro s z w
  iterate 4 refine ⟨runsAs_of_effect rfl, ?_⟩
  exact runsAs_of_effect rfl

end Sys2Proof.Machine
end
